-- ==== Sys2Proof/Word.lean ====
section
/-! DEFINITION. The word types of the DV6208 and the index types of its fixed tables (spec/00_scope.md, Tables 0.3 to 0.6). -/

namespace Sys2Proof

/-- One byte of a frame (R192). -/
abbrev Byte := BitVec 8

/-- A position number, 0 to 22 (Table 0.3). -/
abbrev Pos := Fin 23

/-- A master index, 0 to 15 (R36). -/
abbrev MasterIx := Fin 16

/-- A measurement channel, 0 to 33: 0 to 22 are C0 to C22, 23 to 33 are V0 to V10 (Table 2.2). -/
abbrev Chan := Fin 34

/-- A generator, counted from 0: generator n of the manual is n - 1 here (Table 0.3). -/
abbrev GenIx := Fin 6

/-- A plan slot, 0 to 7 (R127). -/
abbrev SlotIx := Fin 8

/-- A cell of a plan slot, 0 to 15 (R127). -/
abbrev CellIx := Fin 16

/-- A station link port, SL0 or SL1 (R183). -/
abbrev PortIx := Fin 2

/-- A value of the millisecond time base (R33). -/
abbrev Stamp := BitVec 32

/-- A set of positions; bit n stands for position n (R193). -/
abbrev PosMask := BitVec 23

/-- A set of notice classes; bit n stands for the class at place n of Table 11.2 (R192). -/
abbrev NoticeSet := BitVec 12

end Sys2Proof
end

