-- ==== Sys2Proof/Syntax.lean ====
section
/-! DEFINITION. The commands of the DV6208: one constructor for each row of spec/opcode_table.json.
The rows give no operands; they are taken from the rule each row cites and from the request tables.
A request row carries the port of arrival, the sender node and the tag, and its fields as plain numbers, so that a
field out of its range can be sent and is answered as the rules say. -/

namespace Sys2Proof

/-- The protection elements in the order of Table 5.1. -/
inductive Element where
  | inst | time | ground | reversePower
  deriving DecidableEq, Repr

/-- The two sections of the main bus (Table 0.4). -/
inductive BusSec where
  | a | b
  deriving DecidableEq, Repr

/-- The three buses (Table 0.4). -/
inductive Bus where
  | a | b | n
  deriving DecidableEq, Repr

/-- The three sources, and with them the three source monitors (Tables 0.4 and 7.1). -/
inductive Source where
  | ua | ub | gb
  deriving DecidableEq, Repr

/-- The upstream-trip lines (R107). -/
inductive Upstream where
  | uta | utb
  deriving DecidableEq, Repr

/-- The three possible joins (R70). -/
inductive JoinId where
  | uaUb | uaGb | ubGb
  deriving DecidableEq, Repr

/-- The zero-crossing reference lines (Table 0.6). -/
inductive ZLine where
  | zua | zub | zsa | zsb | zn
  | zg (g : GenIx)
  deriving DecidableEq, Repr

/-- The two lines of a synchronizing attempt (R152). -/
inductive EdgeSide where
  | running | reference
  deriving DecidableEq, Repr

/-- The correction outputs (Table 0.6, R156). -/
inductive CorrOut where
  | speedRaise | speedLower | voltRaise | voltLower
  deriving DecidableEq, Repr

/-- What every request carries besides its fields: the port of arrival, the sender node and the tag (R184). -/
structure Req where
  port : PortIx
  sender : Nat
  tag : Byte
  deriving DecidableEq, Repr

/-- One step as a PLAN_WRITE carries it: the kind code, the operand and the time of Table 11.11. -/
structure RawStep where
  kind : Nat
  operand : Nat
  time : Nat
  deriving DecidableEq, Repr

/-- The commands, one for each row of spec/opcode_table.json. -/
inductive Instr where
  | powerOnReset
  | warmReset
  | warmResetEnd
  | contactChange (p : Pos) (a b : Bool)
  | travelTimerExpiry (p : Pos)
  | discrepancyTimerExpiry (p : Pos)
  | recoveryTimerExpiry (p : Pos)
  | closeTimerExpiry (p : Pos)
  | openTimerExpiry (p : Pos)
  | measurementDataFrame (bytes : List Byte)
  | endOfRound (bytes : List Byte)
  | roundTimerExpiry
  | measLostEntry (ch : Chan)
  | elementOperate (p : Pos) (e : Element)
  | zoneHoldExpiry (sec : BusSec)
  | lockWordProgramComplete
  | bfTimerExpiry (p : Pos)
  | upstreamLineTimerExpiry (line : Upstream)
  | stopAsserted
  | stopReleased
  | leaseExpiry (p : Pos)
  | waitTimerExpiry (m : MasterIx)
  | permitReq (q : Req) (mask : PosMask) (kind : Nat) (wait : Bool) (waitTime : Nat)
  | permitRelease (q : Req) (mask : PosMask) (withdraw : Bool)
  | permitRenew (q : Req) (mask : PosMask)
  | layerWrite (q : Req) (layer first : Nat) (entries : List (Nat × Nat))
  | layerCommit (q : Req) (layer : Nat)
  | layerAbandon (q : Req) (layer : Nat)
  | layerRead (q : Req) (layer copy first count part : Nat)
  | setCombine (q : Req) (mode : Nat)
  | openCmd (q : Req) (pos : Nat)
  | closeCmd (q : Req) (pos : Nat)
  | closeSync (q : Req) (pos mode : Nat)
  | resetTrip (q : Req) (pos : Nat)
  | unshed (q : Req) (pos : Nat)
  | overlapTimerExpiry (j : JoinId)
  | groupSwitch (q : Req) (mask : PosMask) (marked unmarked : Nat)
  | deadTimerExpiry
  | groupForce (q : Req) (sec choice : Nat)
  | recordRead (q : Req) (offset part : Nat)
  | recordRelease (q : Req) (seq : Nat)
  | stabilityProved (m : Source)
  | lossTimerExpiry (m : Source)
  | autoTransfer (q : Req) (enable : Nat)
  | planWrite (q : Req) (slot start : Nat) (steps : List RawStep)
  | planClear (q : Req) (slot : Nat)
  | planRead (q : Req) (slot start count part : Nat)
  | planStart (q : Req) (slot : Nat)
  | pollTimerExpiry
  | stepTimerExpiry
  | deadTimeMarkExpiry (bus : Bus)
  | planResume (q : Req)
  | planAbandon (q : Req)
  | zeroCrossingEdge (line : ZLine) (sub : Nat)
  | windowConfirmed
  | edgeSupervisionExpiry (side : EdgeSide)
  | attemptTimerExpiry
  | periodTimerExpiry
  | onTimerExpiry (out : CorrOut)
  | syncStepLatch (q : Req) (pos : Nat)
  | syncStepClose (q : Req) (pos : Nat)
  | syncCancel (q : Req) (pos : Nat)
  | genAdmit (q : Req) (gen mode : Nat)
  | genWithdraw (q : Req) (gen : Nat)
  | generatorLockout (g : GenIx)
  | clearLockout (q : Req) (gen : Nat)
  | readmitComplete (g : GenIx)
  | fitCountRestore
  | spacingTimerExpiry
  | stationFrameReceived (port : PortIx) (bytes : List Byte)
  | linkIdleOffer (port : PortIx)
  | arbitrationLost (port : PortIx)
  | transmitError (port : PortIx)
  | frameSentCleanly (port : PortIx)
  | readNotices (q : Req)
  | beaconTimerExpiry
  | readRecord (q : Req) (item index part : Nat)
  | settingWrite (q : Req) (row place : Nat) (index : List Nat) (value : Nat)
  | settingRead (q : Req) (row place : Nat) (index : List Nat) (part : Nat)
  | save (q : Req)
  | saveComplete
  | setGuard (q : Req) (level : Nat)
  | hold (q : Req)
  | run (q : Req)
  | settleComplete
  | lossOfPower
  deriving DecidableEq, Repr

end Sys2Proof
end

