-- ==== Sys2Proof/Decode.lean ====
section
/-! DEFINITION. The decoder the host asks for. No row of spec/opcode_table.json gives its command any bits (spec/98_reader.md:
no row with fixed bits or fields), so no word spells a command. The frames that do have bytes are decoded in
Machine/Codec.lean and Machine/Requests.lean, where the link and the measurement port take them. -/

namespace Sys2Proof

/-- The command that a word of `nbits` bits spells by the table's bits: none, since the table gives no row any bits. -/
def decodeTableWord (_nbits _w : Nat) : Option Instr := none

end Sys2Proof
end

