-- ==== Sys2Proof/Config.lean ====
section
/-! DEFINITION. The free values: what the manual leaves open and the model does not choose.
Each is a constant with no body, so no proof can rest on a value of it. -/

namespace Sys2Proof

/-- Which of several events that the manual puts in no order is taken first (R20, R30, R86, R99, R198).
Applied to a running counter of State; read modulo the number of candidates (log 3). -/
opaque Config.order : Nat → Nat

/-- The tag of a frame that answers no request: NOTICE and beacon frames (Table 11.7 names a tag and no rule
gives these frames one). Applied to the position of the choice counter (log 15). -/
opaque Config.unsolicitedTag : Nat → Byte

/-- The byte of part number and part count of a reply whose readout has more than 15 parts, which do not fit
four bits each (Table 11.7, note 1). Applied to the part number and the number of parts (log 14). -/
opaque Config.wideParts : Nat → Nat → Byte

end Sys2Proof
end

