-- ==== Sys2Proof/Machine/Settings.lean ====
section
/-! DEFINITION. The settings image (Section 12): its items, their built-in defaults (Table 12.1, Table 5.7, Table 7.2,
Table 9.2, Table 10.8), how an item is named on the wire (R193), its range, its guard level, and how one item is read
and written. -/

namespace Sys2Proof.Machine

/-- The roles of a master (Table 3.1), in the order R193 codes them. -/
inductive Role where
  | stationA | stationB
  | gen (g : GenIx)
  | maint | view
  deriving DecidableEq, Repr

/-- A master table entry (Table 3.1). Table 12.1 gives a built-in entry of no node only NONE: the role VIEW and the empty mask of these
defaults are the model's (log 32). -/
structure MasterEntry where
  node : Option (Fin 31) := none
  role : Role := .view
  mask : NoticeSet := 0
  deriving DecidableEq, Repr

/-- The setting groups G1 and G2 (R89). -/
inductive Grp where
  | g1 | g2
  deriving DecidableEq, Repr

/-- The behaviour of the time-curve element below pickup (R83). -/
inductive ResetMode where
  | instant | decay
  deriving DecidableEq, Repr

/-- The element settings of one position in one group (Table 5.2); the defaults are those of Table 5.7. -/
structure ElemSettings where
  instPickup : Option Nat := some 1000
  timePickup : Nat := 120
  curve : Nat := 0
  timeMult : Nat := 10
  resetMode : ResetMode := .instant
  decayStep : Nat := 1000
  groundPickup : Nat := 50
  groundDelay : Nat := 20
  revPickup : Nat := 10
  revDelay : Nat := 200
  deriving DecidableEq, Repr

/-- The settings of one position (Table 12.1). The demand bears on feeders, the close time on positions 0 to 10. -/
structure PosSettings where
  fitted : Bool := true
  closeWidth : Nat := 150
  travelLimit : Nat := 80
  bfTime : Nat := 150
  stopTrip : Bool := true
  closeTime : Nat := 80
  demand : Nat := 0
  g1 : ElemSettings := {}
  g2 : ElemSettings := {}
  deriving DecidableEq, Repr

/-- The combine modes (Table 4.4). -/
inductive CombineMode where
  | aOnly | bOnly | both | either | aOverB
  deriving DecidableEq, Repr

/-- The scenarios (Table 7.7). -/
inductive Scenario where
  | lossBoth | lossA | lossB | returnA | returnB
  deriving DecidableEq, Repr

/-- A valid step of a plan (Table 7.9, R127). Positions are 0 to 4. -/
inductive Step where
  | openPos (p : Fin 5)
  | closePos (p : Fin 5)
  | closeSync (p : Fin 5)
  | waitDead (bus : Bus) (timeout : Nat)
  | waitHealthy (src : Source) (timeout : Nat)
  | requireGen (count timeout : Nat)
  | dwell (time : Nat)
  | finish
  deriving DecidableEq, Repr

/-- The sixteen cells of a plan slot; an EMPTY cell is none (R127). -/
abbrev Plan := Vector (Option Step) 16

/-- One number for each of the three sources. -/
structure PerSource where
  ua : Nat
  ub : Nat
  gb : Nat
  deriving DecidableEq, Repr

/-- The number of one source. -/
def PerSource.get (t : PerSource) : Source → Nat
  | .ua => t.ua
  | .ub => t.ub
  | .gb => t.gb

/-- The table with the number of one source replaced. -/
def PerSource.put (t : PerSource) (m : Source) (v : Nat) : PerSource :=
  match m with
  | .ua => { t with ua := v }
  | .ub => { t with ub := v }
  | .gb => { t with gb := v }

/-- The plan slot each scenario maps to, or none (R124). -/
structure ScenarioMap where
  lossBoth : Option SlotIx := none
  lossA : Option SlotIx := none
  lossB : Option SlotIx := none
  returnA : Option SlotIx := none
  returnB : Option SlotIx := none
  deriving DecidableEq, Repr

/-- The slot of one scenario. -/
def ScenarioMap.get (m : ScenarioMap) : Scenario → Option SlotIx
  | .lossBoth => m.lossBoth
  | .lossA => m.lossA
  | .lossB => m.lossB
  | .returnA => m.returnA
  | .returnB => m.returnB

/-- The map with the slot of one scenario replaced. -/
def ScenarioMap.put (m : ScenarioMap) (c : Scenario) (v : Option SlotIx) : ScenarioMap :=
  match c with
  | .lossBoth => { m with lossBoth := v }
  | .lossA => { m with lossA := v }
  | .lossB => { m with lossB := v }
  | .returnA => { m with returnA := v }
  | .returnB => { m with returnB := v }

/-- The settings image (Table 12.1). -/
structure Settings where
  pos : Vector PosSettings 23
  lowerVolt : Nat
  upperVolt : Nat
  freqTol : Nat
  nominal : Nat
  lossDelay : PerSource
  returnStab : PerSource
  plans : Vector Plan 8
  scenarios : ScenarioMap
  combine : CombineMode
  utilClosed : Bool
  genClosed : Bool
  slipLimit : Nat
  windowAngle : Nat
  voltLimit : Nat
  attemptTimeout : Nat
  speedGain : Nat
  voltGain : Nat
  overlapTime : Nat
  groupDead : Nat
  transferDead : Nat
  leaseLength : Nat
  defaultWait : Nat
  ratings : Vector Nat 6
  margin : Nat
  restoreDelay : Nat
  ladder : Vector Nat 12
  masters : Vector MasterEntry 16
  autoDefault : Bool
  initialGuard : Nat
  deriving DecidableEq, Repr

/-- The master table of the built-in defaults (Table 12.1): node 1 STATION_A, node 2 STATION_B, node 30 MAINT, each
with all twelve notice classes. -/
def defaultMasters : Vector MasterEntry 16 :=
  (((Vector.replicate 16 ({} : MasterEntry)).set 0 ⟨some 1, .stationA, 0xFFF⟩).set 1 ⟨some 2, .stationB, 0xFFF⟩).set 2
    ⟨some 30, .maint, 0xFFF⟩

/-- The built-in defaults (Table 12.1). -/
def Settings.builtIn : Settings where
  pos := Vector.replicate 23 {}
  lowerVolt := 900
  upperVolt := 1100
  freqTol := 50
  nominal := 5000
  lossDelay := ⟨500, 500, 500⟩
  returnStab := ⟨300, 300, 10⟩
  plans := Vector.replicate 8 (Vector.replicate 16 none)
  scenarios := {}
  combine := .both
  utilClosed := false
  genClosed := false
  slipLimit := 20
  windowAngle := 10
  voltLimit := 50
  attemptTimeout := 120
  speedGain := 5
  voltGain := 2
  overlapTime := 200
  groupDead := 300
  transferDead := 500
  leaseLength := 30
  defaultWait := 5
  ratings := Vector.replicate 6 0
  margin := 90
  restoreDelay := 5
  ladder := #v[0, 1, 2, 3, 4, 5, 6, 7, 8, 9, 10, 11]
  masters := defaultMasters
  autoDefault := false
  initialGuard := 0

/-- The element settings in the order of Table 5.2. -/
inductive ElemKey where
  | instPickup | timePickup | curve | timeMult | resetMode | decayStep | groundPickup | groundDelay | revPickup | revDelay
  deriving DecidableEq, Repr

/-- One item of the settings image (Table 12.1). -/
inductive SettingKey where
  | fitted (p : Pos)
  | closeWidth (p : Pos)
  | travelLimit (p : Pos)
  | bfTime (p : Pos)
  | demand (p : Pos)
  | elem (p : Pos) (g : Grp) (e : ElemKey)
  | stopMask (p : Pos)
  | lowerVolt
  | upperVolt
  | freqTol
  | lossDelay (m : Source)
  | returnStab (m : Source)
  | nominal
  | plan (slot : SlotIx) (cell : CellIx)
  | scenario (c : Scenario)
  | combine
  | utilClosed
  | genClosed
  | slipLimit
  | windowAngle
  | voltLimit
  | attemptTimeout
  | closeTime (p : Pos)
  | speedGain
  | voltGain
  | overlapTime
  | groupDead
  | transferDead
  | leaseLength
  | defaultWait
  | rating (g : GenIx)
  | margin
  | restoreDelay
  | ladder
  | master (m : MasterIx)
  | autoDefault
  | initialGuard
  deriving DecidableEq, Repr

/-- The index a byte names, when it is below the bound. -/
def finOf (n : Nat) (v : Nat) : Option (Fin n) := if h : v < n then some ⟨v, h⟩ else none

/-- The position of a feeder, 11 to 22 (Table 0.3). -/
def isFeeder (p : Pos) : Bool := decide (11 ≤ p.val)

/-- The position of a generator breaker QG1 to QG6, 5 to 10 (Table 0.3). -/
def isGenBreaker (p : Pos) : Bool := decide (5 ≤ p.val) && decide (p.val ≤ 10)

/-- The source coded 0 UA, 1 UB, 2 GB (R193). -/
def sourceOf : Nat → Option Source
  | 0 => some .ua
  | 1 => some .ub
  | 2 => some .gb
  | _ => none

/-- The bus coded 0 A, 1 B, 2 N (R193). -/
def busOf : Nat → Option Bus
  | 0 => some .a
  | 1 => some .b
  | 2 => some .n
  | _ => none

/-- The scenario at a place of Table 7.7 (R193). -/
def scenarioOf : Nat → Option Scenario
  | 0 => some .lossBoth
  | 1 => some .lossA
  | 2 => some .lossB
  | 3 => some .returnA
  | 4 => some .returnB
  | _ => none

/-- The combine mode at a place of Table 4.4 (R193). -/
def combineOf : Nat → Option CombineMode
  | 0 => some .aOnly
  | 1 => some .bOnly
  | 2 => some .both
  | 3 => some .either
  | 4 => some .aOverB
  | _ => none

/-- The place of a combine mode in Table 4.4. -/
def CombineMode.code : CombineMode → Nat
  | .aOnly => 0
  | .bOnly => 1
  | .both => 2
  | .either => 3
  | .aOverB => 4

/-- The element setting at a place of Table 5.2 (R193). -/
def elemKeyOf : Nat → Option ElemKey
  | 0 => some .instPickup
  | 1 => some .timePickup
  | 2 => some .curve
  | 3 => some .timeMult
  | 4 => some .resetMode
  | 5 => some .decayStep
  | 6 => some .groundPickup
  | 7 => some .groundDelay
  | 8 => some .revPickup
  | 9 => some .revDelay
  | _ => none

/-- The group coded 0 G1, 1 G2. -/
def grpOf : Nat → Option Grp
  | 0 => some .g1
  | 1 => some .g2
  | _ => none

/-- The role at a place of the list of Table 3.1 (R193). -/
def roleOf : Nat → Option Role
  | 0 => some .stationA
  | 1 => some .stationB
  | 2 => some (.gen 0)
  | 3 => some (.gen 1)
  | 4 => some (.gen 2)
  | 5 => some (.gen 3)
  | 6 => some (.gen 4)
  | 7 => some (.gen 5)
  | 8 => some .maint
  | 9 => some .view
  | _ => none

/-- The place of a role in the list of Table 3.1. -/
def Role.code : Role → Nat
  | .stationA => 0
  | .stationB => 1
  | .gen g => 2 + g.val
  | .maint => 8
  | .view => 9

/-- An element setting of a position; the reverse-power settings exist for positions 5 to 10 only (Table 5.2, note 2). -/
def elemKeyFor (p : Pos) (e : ElemKey) : Option ElemKey :=
  match e with
  | .revPickup | .revDelay => if isGenBreaker p then some e else none
  | _ => some e

/-- The item a SETTING_WRITE or SETTING_READ names: the row of Table 12.1, the place of the setting within the row, and
one index byte for each part of the row's "Indexed by" column (R193). An index part that has no bearing on the
setting named is not looked at (log 17). -/
def keyOf (row place : Nat) (index : List Nat) : Option SettingKey :=
  match row, place, index with
  | 0, 0, [p] => (finOf 23 p).map .fitted
  | 1, 0, [p] => (finOf 23 p).map .closeWidth
  | 1, 1, [p] => (finOf 23 p).map .travelLimit
  | 1, 2, [p] => (finOf 23 p).map .bfTime
  | 2, 0, [p] => (finOf 23 p).bind fun p => if isFeeder p then some (.demand p) else none
  | 3, 0, [p, g, e] =>
      (finOf 23 p).bind fun p => (grpOf g).bind fun g => (elemKeyOf e).bind fun e =>
        (elemKeyFor p e).map (SettingKey.elem p g)
  | 4, 0, [p] => (finOf 23 p).map .stopMask
  | 5, 0, [0, _] => some .lowerVolt
  | 5, 0, [1, _] => some .upperVolt
  | 5, 0, [2, _] => some .freqTol
  | 5, 1, [_, m] => (sourceOf m).map .lossDelay
  | 5, 2, [_, m] => (sourceOf m).map .returnStab
  | 6, 0, [] => some .nominal
  | 7, 0, [slot, cell] => (finOf 8 slot).bind fun s => (finOf 16 cell).map (SettingKey.plan s)
  | 8, 0, [c] => (scenarioOf c).map .scenario
  | 9, 0, [] => some .combine
  | 10, 0, [] => some .utilClosed
  | 10, 1, [] => some .genClosed
  | 11, 0, [0, _] => some .slipLimit
  | 11, 0, [1, _] => some .windowAngle
  | 11, 0, [2, _] => some .voltLimit
  | 11, 0, [3, _] => some .attemptTimeout
  | 11, 0, [4, p] => (finOf 23 p).bind fun p => if p.val ≤ 10 then some (.closeTime p) else none
  | 11, 0, [5, _] => some .speedGain
  | 11, 0, [6, _] => some .voltGain
  | 12, 0, [] => some .overlapTime
  | 12, 1, [] => some .groupDead
  | 12, 2, [] => some .transferDead
  | 13, 0, [] => some .leaseLength
  | 13, 1, [] => some .defaultWait
  | 14, 0, [g, _] => if g = 0 then none else (finOf 6 (g - 1)).map .rating
  | 14, 1, [_, _] => some .margin
  | 14, 2, [_, _] => some .restoreDelay
  | 15, 0, [] => some .ladder
  | 16, 0, [m] => (finOf 16 m).map .master
  | 17, 0, [] => some .autoDefault
  | 18, 0, [] => some .initialGuard
  | _, _, _ => none

/-- How many index bytes an item of a row carries (Table 12.1, "Indexed by"), for the rows that exist. -/
def indexWidth : Nat → Option Nat
  | 0 | 1 | 2 | 4 | 8 | 16 => some 1
  | 3 => some 3
  | 5 | 7 | 11 | 14 => some 2
  | 6 | 9 | 10 | 12 | 13 | 15 | 17 | 18 => some 0
  | _ => none

/-- The guard level that freezes an item (Table 12.1). -/
def SettingKey.guardLevel : SettingKey → Nat
  | .elem .. | .stopMask _ | .lowerVolt | .upperVolt | .freqTol | .lossDelay _ | .returnStab _ => 1
  | .fitted _ | .plan .. | .scenario _ | .combine | .utilClosed | .genClosed | .slipLimit | .windowAngle | .voltLimit
  | .attemptTimeout | .closeTime _ | .speedGain | .voltGain => 2
  | .closeWidth _ | .travelLimit _ | .bfTime _ | .demand _ | .nominal | .overlapTime | .groupDead | .transferDead
  | .leaseLength | .defaultWait | .rating _ | .margin | .restoreDelay | .ladder | .master _ | .autoDefault
  | .initialGuard => 3

/-- How many bytes an element setting takes (Table 5.2, R193). -/
def ElemKey.width : ElemKey → Nat
  | .instPickup | .timePickup | .decayStep | .groundPickup | .groundDelay | .revDelay => 2
  | .curve | .timeMult | .resetMode | .revPickup => 1

/-- How many bytes the value of an item takes: the fewest that hold its range (R193), in the stored scale of Table 0.9. -/
def SettingKey.width : SettingKey → Nat
  | .elem _ _ e => e.width
  | .closeWidth _ | .bfTime _ | .demand _ | .lowerVolt | .upperVolt | .lossDelay _ | .returnStab _ | .attemptTimeout
  | .overlapTime | .groupDead | .transferDead | .rating _ | .nominal => 2
  | .plan .. => 3
  | .ladder => 6
  | .master _ => 4
  | .fitted _ | .travelLimit _ | .stopMask _ | .freqTol | .scenario _ | .combine | .utilClosed | .genClosed
  | .slipLimit | .windowAngle | .voltLimit | .closeTime _ | .speedGain | .voltGain | .leaseLength | .defaultWait
  | .margin | .restoreDelay | .autoDefault | .initialGuard => 1

/-- The value when it lies in a range, both ends included. -/
def inRange (lo hi v : Nat) : Option Nat := if lo ≤ v ∧ v ≤ hi then some v else none

/-- A flag or two-valued name, coded 0 and 1 (R193). -/
def flagOf : Nat → Option Bool
  | 0 => some false
  | 1 => some true
  | _ => none

/-- The code of a flag. -/
def flagCode (b : Bool) : Nat := if b then 1 else 0

/-- One element setting replaced, when the value is in the range of Table 5.2. OFF is sent as all ones (R193). -/
def ElemSettings.put (t : ElemSettings) (e : ElemKey) (v : Nat) : Option ElemSettings :=
  match e with
  | .instPickup =>
      if v = 0xFFFF then some { t with instPickup := none }
      else (inRange 100 4000 v).map fun v => { t with instPickup := some v }
  | .timePickup => (inRange 50 400 v).map fun v => { t with timePickup := v }
  | .curve => (inRange 0 3 v).map fun v => { t with curve := v }
  | .timeMult => (inRange 1 100 v).map fun v => { t with timeMult := v }
  | .resetMode => (flagOf v).map fun b => { t with resetMode := if b then .decay else .instant }
  | .decayStep => (inRange 1 5000 v).map fun v => { t with decayStep := v }
  | .groundPickup => (inRange 10 400 v).map fun v => { t with groundPickup := v }
  | .groundDelay => (inRange 1 300 v).map fun v => { t with groundDelay := v }
  | .revPickup => (inRange 2 50 v).map fun v => { t with revPickup := v }
  | .revDelay => (inRange 10 1000 v).map fun v => { t with revDelay := v }

/-- The value of one element setting as it is sent. -/
def ElemSettings.get (t : ElemSettings) : ElemKey → Nat
  | .instPickup => t.instPickup.getD 0xFFFF
  | .timePickup => t.timePickup
  | .curve => t.curve
  | .timeMult => t.timeMult
  | .resetMode => match t.resetMode with
    | .instant => 0
    | .decay => 1
  | .decayStep => t.decayStep
  | .groundPickup => t.groundPickup
  | .groundDelay => t.groundDelay
  | .revPickup => t.revPickup
  | .revDelay => t.revDelay

/-- The element settings of one group. -/
def PosSettings.group (t : PosSettings) : Grp → ElemSettings
  | .g1 => t.g1
  | .g2 => t.g2

/-- The element settings of one group replaced. -/
def PosSettings.putGroup (t : PosSettings) (g : Grp) (e : ElemSettings) : PosSettings :=
  match g with
  | .g1 => { t with g1 := e }
  | .g2 => { t with g2 := e }

/-- The settings of one position replaced. -/
def Settings.setPos (t : Settings) (p : Pos) (v : PosSettings) : Settings := { t with pos := t.pos.set p v }

/-- The half byte at a place of a number of six bytes, the first in bits 7 to 4 of the first byte (R193). -/
def halfByte (v place : Nat) : Nat := (v >>> (4 * (11 - place))) % 16

/-- The ranks a ladder value gives positions 11 to 22 (R193). -/
def ladderRanks (v : Nat) : Vector Nat 12 :=
  #v[halfByte v 0, halfByte v 1, halfByte v 2, halfByte v 3, halfByte v 4, halfByte v 5, halfByte v 6, halfByte v 7,
    halfByte v 8, halfByte v 9, halfByte v 10, halfByte v 11]

/-- The ladder uses each rank 0 to 11 exactly once (R195). -/
def ladderOk (r : Vector Nat 12) : Bool := (List.range 12).all fun k => r.toList.count k == 1

/-- A ladder value as it is sent. -/
def ladderValue (r : Vector Nat 12) : Nat := r.toList.foldl (fun acc k => acc * 16 + k % 16) 0

/-- The master table entry a value of four bytes writes: node, role, notice mask (R193). NONE is all ones. That
bits 12 to 15 of the two bytes of the mask are not looked at is the model's choice (log 18). -/
def masterOf (v : Nat) : Option MasterEntry :=
  (roleOf (v / 65536 % 256)).bind fun r =>
    if v / 16777216 = 255 then some ⟨none, r, BitVec.ofNat 12 v⟩
    else (finOf 31 (v / 16777216)).map fun n => ⟨some n, r, BitVec.ofNat 12 v⟩

/-- A master table entry as it is sent. -/
def MasterEntry.value (e : MasterEntry) : Nat :=
  (match e.node with
    | some n => n.val
    | none => 255) * 16777216 + e.role.code * 65536 + e.mask.toNat

/-- A plan cell as the three bytes of Table 11.11: kind, operand, time. -/
def cellParts : Option Step → Nat × Nat × Nat
  | none => (0, 0, 0)
  | some (.openPos p) => (1, p.val, 0)
  | some (.closePos p) => (2, p.val, 0)
  | some (.closeSync p) => (3, p.val, 0)
  | some (.waitDead .a t) => (4, 0, t)
  | some (.waitDead .b t) => (4, 1, t)
  | some (.waitDead .n t) => (4, 2, t)
  | some (.waitHealthy .ua t) => (5, 0, t)
  | some (.waitHealthy .ub t) => (5, 1, t)
  | some (.waitHealthy .gb t) => (5, 2, t)
  | some (.requireGen c t) => (6, c, t)
  | some (.dwell t) => (7, 0, t)
  | some .finish => (8, 0, 0)

/-- A plan cell as one number of three bytes. -/
def cellValue (c : Option Step) : Nat :=
  let parts := cellParts c
  (parts.1 * 16 + parts.2.1) * 65536 + parts.2.2

/-- The step a written cell holds, when it is valid (R127, Tables 7.9 and 11.11). A kind without an operand or a time
carries none: the bits shown as 0 are ignored on receipt (R192). -/
def stepOf (r : RawStep) : Option Step :=
  match r.kind with
  | 1 => (finOf 5 r.operand).map .openPos
  | 2 => (finOf 5 r.operand).map .closePos
  | 3 => (finOf 5 r.operand).map .closeSync
  | 4 => (busOf r.operand).bind fun b => (inRange 100 60000 r.time).map (Step.waitDead b)
  | 5 => (sourceOf r.operand).bind fun m => (inRange 100 60000 r.time).map (Step.waitHealthy m)
  | 6 => (inRange 1 6 r.operand).bind fun c => (inRange 100 60000 r.time).map (Step.requireGen c)
  | 7 => (inRange 10 60000 r.time).map .dwell
  | 8 => some .finish
  | _ => none

/-- One item of the image replaced, when the value lies in the range its section gives (R195). The plan store is written by
PLAN_WRITE and PLAN_CLEAR only (Table 12.1, note 1): that a SETTING_WRITE of a cell is answered RANGE is the model's choice (log 50). -/
def Settings.put (t : Settings) (k : SettingKey) (v : Nat) : Option Settings :=
  match k with
  | .fitted p => (flagOf v).map fun b => t.setPos p { t.pos[p] with fitted := b }
  | .closeWidth p => (inRange 50 500 v).map fun v => t.setPos p { t.pos[p] with closeWidth := v }
  | .travelLimit p => (inRange 20 200 v).map fun v => t.setPos p { t.pos[p] with travelLimit := v }
  | .bfTime p => (inRange 80 500 v).map fun v => t.setPos p { t.pos[p] with bfTime := v }
  | .demand p => (inRange 0 25500 v).map fun v => t.setPos p { t.pos[p] with demand := v }
  | .elem p g e => ((t.pos[p].group g).put e v).map fun x => t.setPos p (t.pos[p].putGroup g x)
  | .stopMask p => (flagOf v).map fun b => t.setPos p { t.pos[p] with stopTrip := !b }
  | .lowerVolt => (inRange 850 1000 v).map fun v => { t with lowerVolt := v }
  | .upperVolt => (inRange 1000 1200 v).map fun v => { t with upperVolt := v }
  | .freqTol => (inRange 10 200 v).map fun v => { t with freqTol := v }
  | .lossDelay m => (inRange 100 5000 v).map fun v => { t with lossDelay := t.lossDelay.put m v }
  | .returnStab m => (inRange 10 1800 v).map fun v => { t with returnStab := t.returnStab.put m v }
  | .nominal => if v = 5000 ∨ v = 6000 then some { t with nominal := v } else none
  | .plan _ _ => none
  | .scenario c =>
      if v = 255 then some { t with scenarios := t.scenarios.put c none }
      else (finOf 8 v).map fun s => { t with scenarios := t.scenarios.put c (some s) }
  | .combine => (combineOf v).map fun c => { t with combine := c }
  | .utilClosed => (flagOf v).map fun b => { t with utilClosed := b }
  | .genClosed => (flagOf v).map fun b => { t with genClosed := b }
  | .slipLimit => (inRange 5 50 v).map fun v => { t with slipLimit := v }
  | .windowAngle => (inRange 5 30 v).map fun v => { t with windowAngle := v }
  | .voltLimit => (inRange 20 100 v).map fun v => { t with voltLimit := v }
  | .attemptTimeout => (inRange 10 300 v).map fun v => { t with attemptTimeout := v }
  | .closeTime p => (inRange 20 250 v).map fun v => t.setPos p { t.pos[p] with closeTime := v }
  | .speedGain => (inRange 1 50 v).map fun v => { t with speedGain := v }
  | .voltGain => (inRange 1 50 v).map fun v => { t with voltGain := v }
  | .overlapTime => (inRange 50 1000 v).map fun v => { t with overlapTime := v }
  | .groupDead => (inRange 0 2000 v).map fun v => { t with groupDead := v }
  | .transferDead => (inRange 0 5000 v).map fun v => { t with transferDead := v }
  | .leaseLength => (inRange 5 120 v).map fun v => { t with leaseLength := v }
  | .defaultWait => (inRange 1 30 v).map fun v => { t with defaultWait := v }
  | .rating g => if v ≤ 25500 ∧ v % 100 = 0 then some { t with ratings := t.ratings.set g v } else none
  | .margin => (inRange 70 100 v).map fun v => { t with margin := v }
  | .restoreDelay => (inRange 1 60 v).map fun v => { t with restoreDelay := v }
  | .ladder => if ladderOk (ladderRanks v) then some { t with ladder := ladderRanks v } else none
  | .master m => (masterOf v).map fun e => { t with masters := t.masters.set m e }
  | .autoDefault => (flagOf v).map fun b => { t with autoDefault := b }
  | .initialGuard => (inRange 0 3 v).map fun v => { t with initialGuard := v }

/-- The value of one item as it is sent. A fitted flag is 1 for fitted, a stop-mask entry 0 for TRIP and 1 for LEAVE, as the
manual names them (R193). -/
def Settings.get (t : Settings) : SettingKey → Nat
  | .fitted p => flagCode t.pos[p].fitted
  | .closeWidth p => t.pos[p].closeWidth
  | .travelLimit p => t.pos[p].travelLimit
  | .bfTime p => t.pos[p].bfTime
  | .demand p => t.pos[p].demand
  | .elem p g e => (t.pos[p].group g).get e
  | .stopMask p => flagCode (!t.pos[p].stopTrip)
  | .lowerVolt => t.lowerVolt
  | .upperVolt => t.upperVolt
  | .freqTol => t.freqTol
  | .lossDelay m => t.lossDelay.get m
  | .returnStab m => t.returnStab.get m
  | .nominal => t.nominal
  | .plan slot cell => cellValue t.plans[slot][cell]
  | .scenario c => match t.scenarios.get c with
    | some s => s.val
    | none => 255
  | .combine => t.combine.code
  | .utilClosed => flagCode t.utilClosed
  | .genClosed => flagCode t.genClosed
  | .slipLimit => t.slipLimit
  | .windowAngle => t.windowAngle
  | .voltLimit => t.voltLimit
  | .attemptTimeout => t.attemptTimeout
  | .closeTime p => t.pos[p].closeTime
  | .speedGain => t.speedGain
  | .voltGain => t.voltGain
  | .overlapTime => t.overlapTime
  | .groupDead => t.groupDead
  | .transferDead => t.transferDead
  | .leaseLength => t.leaseLength
  | .defaultWait => t.defaultWait
  | .rating g => t.ratings[g]
  | .margin => t.margin
  | .restoreDelay => t.restoreDelay
  | .ladder => ladderValue t.ladder
  | .master m => t.masters[m].value
  | .autoDefault => flagCode t.autoDefault
  | .initialGuard => t.initialGuard

/-- A staged protection write (R195): the element setting it names and the value to come into force. -/
structure StagedWrite where
  pos : Pos
  grp : Grp
  elem : ElemKey
  value : Nat
  deriving DecidableEq, Repr

/-- One staged write put into force. -/
def Settings.apply (t : Settings) (w : StagedWrite) : Settings := (t.put (.elem w.pos w.grp w.elem) w.value).getD t

/-- Every staged write put into force, in the order they were staged (R195). -/
def Settings.applyAll (t : Settings) (ws : List StagedWrite) : Settings := ws.foldl Settings.apply t

end Sys2Proof.Machine
end

