-- ==== Sys2Proof/Machine/State.lean ====
section
/-! DEFINITION. The state of the DV6208 as plain data, block by block, and the state right after power-on reset.
Each structure names the section that specifies it. A timer holds the milliseconds it has left, or none when idle. -/

namespace Sys2Proof.Machine

/-- No rule of the manual stops the machine: every request is answered with a result code (Table 11.6) and every event that
finds nothing to act on changes nothing. So there is no fault, and no meaning raises one. -/
inductive Fault where
  deriving DecidableEq, Repr

/-- Why a command has no meaning. -/
inductive Refusal where
  /-- Raised by an arm of `exec` for a command that has not been given its meaning. No arm does so now. Safe: nothing is
  claimed about the command. -/
  | notModelled (mnemonic : String)
  deriving DecidableEq, Repr

/-- A timer of a length in milliseconds: the milliseconds left, or none when idle (R33). -/
abbrev Timer := Option Nat

/-- A timer that can be stopped with its time kept: the loss timer (R117) and the step timer (R132). -/
inductive HeldTimer where
  | idle
  | running (left : Nat)
  | held (left : Nat)
  deriving DecidableEq, Repr

/-- A set of sources drawn from UA, UB and GB (R19). -/
structure SourceSet where
  ua : Bool := false
  ub : Bool := false
  gb : Bool := false
  deriving DecidableEq, Repr

/-! ### Section 1: positions -/

/-- Position states (Table 1.3). -/
inductive PosState where
  | opened | closePulse | closed | openPulse | tripPulse | faulty | unfitted
  deriving DecidableEq, Repr

/-- Decoded feedback (Table 1.4); `absent` is the manual's NONE. -/
inductive Feedback where
  | closed | opened | travelling | discrepancy | absent
  deriving DecidableEq, Repr

/-- Pulse origins (R8). -/
inductive Origin where
  | master | group | engine | sync | ledger | trip
  deriving DecidableEq, Repr

/-- Pulse outcomes (Table 1.8). -/
inductive PulseOutcome where
  | closedDone | openedDone | closeFail | openFail | takenByTrip | bfExpired
  deriving DecidableEq, Repr

/-- Change kinds (Table 1.2). -/
inductive ChangeKind where
  | commanded | uncommandedOpen | uncommandedClose | travelFault | discrepancy | openFail | recovered | fitting | reset
  deriving DecidableEq, Repr

/-- A position record (Table 1.1) with the supervision and pulse timers of 1.3 and 1.5. -/
structure PosRec where
  state : PosState
  feedback : Feedback
  tripLocked : Bool := false
  bf : Bool := false
  shed : Bool := false
  origin : Option Origin := none
  requester : Option MasterIx := none
  lastOutcome : Option (PulseOutcome × Origin) := none
  lastKind : ChangeKind := .reset
  lastStamp : Stamp := 0
  closeTimer : Timer := none
  openTimer : Timer := none
  travelTimer : Timer := none
  discTimer : Timer := none
  recTimer : Timer := none
  deriving DecidableEq, Repr

/-- The feed sets of the buses A, B and N (R19). -/
structure Feeds where
  a : SourceSet := {}
  b : SourceSet := {}
  n : SourceSet := {}
  deriving DecidableEq, Repr

/-- A feed-set change as it is handed on (R20). -/
structure FeedChange where
  before : Feeds
  after : Feeds
  pos : Pos
  kind : ChangeKind
  deriving DecidableEq, Repr

/-! ### Section 2: measurement -/

/-- The fields of a data frame in their stored ranges (Tables 2.1 and 2.2). -/
inductive Values where
  | current (phase ground : Nat)
  | genCurrent (phase ground : Nat) (reverse : Bool) (power : Nat)
  | voltage (volt : Nat) (freq : Option Nat)
  deriving DecidableEq, Repr

/-- Channel status (Table 2.3). -/
inductive ChanStatus where
  | notYetSeen | present | absent | measLost
  deriving DecidableEq, Repr

/-- A channel record (2.3): status, absence count, last values with their stamp. -/
structure ChanRec where
  status : ChanStatus := .notYetSeen
  absence : Nat := 0
  last : Option (Values × Stamp) := none
  deriving DecidableEq, Repr

/-- What the delivered round holds besides the channel records it set: the closing kind, the stamp of the boundary and the
marks of channels that entered or left MEAS_LOST (R30). -/
structure RoundInfo where
  byMarker : Bool
  stamp : Stamp
  entered : List Chan
  left : List Chan
  deriving DecidableEq, Repr

/-- The measurement port. -/
structure Meas where
  slots : Vector (Option Values) 34
  roundTimer : Timer
  chans : Vector ChanRec 34
  round : Option RoundInfo
  deriving DecidableEq, Repr

/-! ### Section 3: switching authority -/

/-- The holder of a permit, with the kind it implies for the engine (Table 3.3). -/
inductive Permit where
  | operate (m : MasterIx) (lease : Timer)
  | maintenance (m : MasterIx)
  | engine
  deriving DecidableEq, Repr

/-- The kinds a master may ask for (R41). -/
inductive PermitKind where
  | operate | maintenance
  deriving DecidableEq, Repr

/-- A wait list entry (Table 3.6). -/
structure WaitEntry where
  requester : MasterIx
  mask : PosMask
  kind : PermitKind
  wait : Timer
  deriving DecidableEq, Repr

/-- Outcomes of permit news (Table 3.9). -/
inductive NewsOutcome where
  | granted | expired | timedOut | revoked | waitCancelled
  deriving DecidableEq, Repr

/-- Causes of permit news (Table 3.9). -/
inductive NewsCause where
  | engineStart | stop | hold
  deriving DecidableEq, Repr

/-- A permit news entry (Table 3.9, note 1). The positions are kept by kind, since on entry to HOLD a master may lose permits of
both kinds. -/
structure News where
  number : BitVec 8
  outcome : NewsOutcome
  operate : PosMask
  maintenance : PosMask
  cause : Option NewsCause
  deriving DecidableEq, Repr

/-- The permit news list and counter of one master (R53). -/
structure NewsBox where
  counter : BitVec 8 := 0
  list : List News := []
  deriving DecidableEq, Repr

/-- The authority unit. -/
structure Authority where
  permits : Vector (Option Permit) 23
  waits : List WaitEntry
  news : Vector NewsBox 16
  deriving DecidableEq, Repr

/-! ### Section 4: interlocks -/

/-- A layer entry (R57). -/
inductive LayerEntry where
  | permit | block | defer
  deriving DecidableEq, Repr

/-- One copy of a layer: the close and open entries of the 23 positions (Table 4.1). -/
structure LayerCopy where
  close : Vector LayerEntry 23
  opn : Vector LayerEntry 23
  deriving DecidableEq, Repr

/-- A layer (R57). UPDATING is set exactly while the staging copy exists. -/
structure Layer where
  committed : LayerCopy
  staging : Option LayerCopy := none
  commits : BitVec 8 := 0
  deriving DecidableEq, Repr

/-- A join record (Table 4.10); a timer of none is EXPIRED. -/
structure JoinRec where
  pos : Pos
  timer : Timer
  deriving DecidableEq, Repr

/-- The join records of the three possible joins (R70). -/
structure Joins where
  uaUb : Option JoinRec := none
  uaGb : Option JoinRec := none
  ubGb : Option JoinRec := none
  deriving DecidableEq, Repr

/-- Result codes (Table 11.6), in the order of the table. -/
inductive Result where
  | done | accepted | queued | hold | role | notHeld | heldByOther | alreadyWaiting | waitFull | unfitted | faulty | busy
  | tripLocked | shed | useAdmit | interlock | parallel | residual | capacity | maint | notEmpty | incomplete | guard
  | stopActive | settingsInvalid | syncFull | outOfWindow | cancelled | range | notFound
  deriving DecidableEq, Repr

/-- Phases of the group record (Table 4.12). -/
inductive GroupPhase where
  | idle | opening | deadTime | closing
  deriving DecidableEq, Repr

/-- Results of a group entry (Table 4.12). -/
inductive GroupResult where
  | pending | issued | done
  | failed (oc : PulseOutcome)
  | skipped (r : Result)
  | cancelled
  deriving DecidableEq, Repr

/-- One entry of the group's action list (Table 4.12). -/
structure GroupEntry where
  pos : Pos
  close : Bool
  result : GroupResult
  deriving DecidableEq, Repr

/-- The group record and its dead timer (Table 4.12, R74). -/
structure Group where
  requester : Option MasterIx := none
  phase : GroupPhase := .idle
  list : List GroupEntry := []
  dead : Timer := none
  deriving DecidableEq, Repr

/-- The interlock evaluator. -/
structure Interlock where
  layerA : Layer
  layerB : Layer
  joins : Joins := {}
  group : Group := {}
  deriving DecidableEq, Repr

/-! ### Section 5: protection -/

/-- An element record (R78). -/
structure ElemRec where
  pickup : Bool := false
  operated : Bool := false
  count : Nat := 0
  deriving DecidableEq, Repr

/-- The protection state of one position (R78, R89, R90, R93). `read` is the element settings as stage 2 of the latest boundary read
them (R79, R92); before the first boundary it bears on nothing, every count being 0 (log 31). -/
structure ProtRec where
  active : Grp := .g1
  due : Option Grp := none
  read : ElemSettings := {}
  frozen : Bool := false
  inst : ElemRec := {}
  time : ElemRec := {}
  ground : ElemRec := {}
  rev : ElemRec := {}
  blockInput : Bool := false
  deriving DecidableEq, Repr

/-- A section block (R87). `spent` marks a block whose hold count the present boundary has brought to 0; it stands only until the
block is CLEAR, at the same event (log 6). -/
structure SecBlock where
  raised : Bool := false
  hold : Nat := 0
  spent : Bool := false
  deriving DecidableEq, Repr

/-- The choice of a section's force (R91). -/
inductive Force where
  | g1 | g2 | auto
  deriving DecidableEq, Repr

/-- The protection unit. -/
structure Protection where
  recs : Vector ProtRec 23
  blockA : SecBlock := {}
  blockB : SecBlock := {}
  forceA : Force := .auto
  forceB : Force := .auto
  deriving DecidableEq, Repr

/-! ### Section 6: tripping -/

/-- Trip causes (Table 6.1). -/
inductive TripCause where
  | iInst | iTime | ground | reversePower | overlap | unauthParallel | bfBackup | stop
  deriving DecidableEq, Repr

/-- An active trip entry (R97). -/
structure ActiveTrip where
  cause : TripCause
  secondary : List TripCause := []
  backup : Bool := false
  record : Option (BitVec 16) := none
  timer : Timer
  parent : Option (BitVec 16) := none
  deriving DecidableEq, Repr

/-- The TRIP_LOCKED and BF flags of one position as the lock word keeps them (R102). -/
structure LockFlags where
  locked : Bool := false
  bf : Bool := false
  deriving DecidableEq, Repr

/-- The 46 flags of the lock word (R102). -/
abbrev LockWord := Vector LockFlags 23

/-- A lock-word program in progress: the flags captured and the bound on its time (R102). -/
structure LockProg where
  capture : LockWord
  bound : Timer
  deriving DecidableEq, Repr

/-- Outcomes of a fault record (Table 6.3). -/
inductive FaultOutcome where
  | opened
  | cleared (time : Nat)
  | backup (list : List Pos)
  | backupFailed (list : List Pos)
  | resetLost
  deriving DecidableEq, Repr

/-- A fault record (Table 6.3). The outcome `opened` is the manual's OPEN. -/
structure FaultRec where
  seq : BitVec 16
  stamp : Stamp
  pos : Pos
  cause : TripCause
  value : Option Nat
  grp : Grp
  feed : SourceSet
  parent : Option (BitVec 16)
  secondary : List TripCause
  outcome : FaultOutcome
  deriving DecidableEq, Repr

/-- The trip router. -/
structure Router where
  active : Vector (Option ActiveTrip) 23
  prog : Option LockProg := none
  progPending : Bool := false
  uta : Timer := none
  utb : Timer := none
  stopPending : List Pos := []
  ring : List FaultRec := []
  nextSeq : BitVec 16 := 0
  overrun : Bool := false
  deriving DecidableEq, Repr

/-! ### Section 7: sources -/

/-- Monitor states (Table 7.3). -/
inductive MonState where
  | dead | unstable | healthy | failing | lost
  deriving DecidableEq, Repr

/-- A monitor record (R117). `proved` marks a count that the present boundary has found at or above the return stability in force; it
stands only until the monitor is HEALTHY, at the same event (R119; log 6). -/
structure MonRec where
  state : MonState := .dead
  count : Nat := 0
  loss : HeldTimer := .idle
  proved : Bool := false
  deriving DecidableEq, Repr

/-- The condition flags of the five scenarios (R124). -/
structure ScenarioFlags where
  lossBoth : Bool := false
  lossA : Bool := false
  lossB : Bool := false
  returnA : Bool := false
  returnB : Bool := false
  deriving DecidableEq, Repr

/-- The source monitors and the scenario logic. -/
structure Sources where
  ua : MonRec := {}
  ub : MonRec := {}
  gb : MonRec := {}
  flags : ScenarioFlags := {}
  auto : Bool := false
  deriving DecidableEq, Repr

/-! ### Section 8: the transfer engine -/

/-- Synchronizer outcomes (Table 9.7). -/
inductive SyncOutcome where
  | done | timeout | closeFail | lostReference | cancelled | interlock
  deriving DecidableEq, Repr

/-- Engine states (Table 8.1). -/
inductive EngState where
  | idle | running | suspended
  deriving DecidableEq, Repr

/-- Step phases (Table 8.2). -/
inductive StepPhase where
  | waitingToIssue | issued | waiting | halted
  deriving DecidableEq, Repr

/-- The plan in progress: slot, position set, step index and phase (R132). -/
structure PlanRun where
  slot : SlotIx
  set : PosMask
  step : CellIx
  phase : StepPhase
  deriving DecidableEq, Repr

/-- What started a plan (Table 8.3). -/
inductive StartCause where
  | scenario (c : Scenario)
  | master (m : MasterIx)
  deriving DecidableEq, Repr

/-- Why a step failed (Table 8.3). -/
inductive FailReason where
  | refusal (r : Result)
  | openFail | closeFail | timeout
  | sync (oc : SyncOutcome)
  deriving DecidableEq, Repr

/-- Why a plan was abandoned (Table 8.3). -/
inductive AbandonReason where
  | request (m : MasterIx)
  | hold | stop | secondFailure
  deriving DecidableEq, Repr

/-- How a plan ended (Table 8.3). -/
inductive PlanOutcome where
  | completed
  | failed (step : CellIx) (why : FailReason)
  | abandoned (why : AbandonReason)
  | reset
  deriving DecidableEq, Repr

/-- The result record (Table 8.3). -/
structure ResultRec where
  slot : SlotIx
  cause : StartCause
  set : PosMask
  step : CellIx
  trips : List (Pos × TripCause) := []
  outcome : Option PlanOutcome := none
  deriving DecidableEq, Repr

/-- Why a scenario was not started (R135, R136). -/
inductive NotStarted where
  | incomplete | maint | outranked | noLongerStands
  deriving DecidableEq, Repr

/-- The dead-time marks of the three buses (R141). -/
structure Marks where
  a : Timer := none
  b : Timer := none
  n : Timer := none
  deriving DecidableEq, Repr

/-- The transfer engine (R132). -/
structure Engine where
  state : EngState := .idle
  run : Option PlanRun := none
  stepTimer : HeldTimer := .idle
  poll : Timer := none
  marks : Marks := {}
  pendingSc : Option Scenario := none
  lastNot : Option (Scenario × NotStarted) := none
  result : Option ResultRec := none
  deriving DecidableEq, Repr

/-! ### Section 9: the synchronizer -/

/-- Classes of a synchronizer entry (Table 9.1). -/
inductive SyncClass where
  | engine | generator | master
  deriving DecidableEq, Repr

/-- Synchronizing modes (Table 9.1). -/
inductive SyncMode where
  | auto | stepped
  deriving DecidableEq, Repr

/-- A synchronizer entry (Table 9.1). The requester is absent exactly for the engine. -/
structure SyncEntry where
  pos : Pos
  cls : SyncClass
  requester : Option MasterIx
  mode : SyncMode
  deriving DecidableEq, Repr

/-- Synchronizer states (Table 9.4). -/
inductive SyncState where
  | idle | measuring | correcting | inWindow | waitWindow | latched | closing
  deriving DecidableEq, Repr

/-- A measurement (R152): hundredths of a degree, hundredths of a hertz, and the voltage difference where both channels gave
one. The first measurement of an attempt has no slip. -/
structure Measurement where
  phi : Int
  theta : Int
  dphi : Option Int
  slip : Option Int
  advance : Option Int
  vdiff : Option Int
  deriving DecidableEq, Repr

/-- A capture (R157). -/
structure Capture where
  meas : Option Measurement
  live : Bool
  seen : Bool
  deriving DecidableEq, Repr

/-- The refusal or pulse outcome recorded with an attempt's outcome (R164). -/
inductive SyncDetail where
  | refusal (r : Result)
  | pulse (oc : PulseOutcome)
  deriving DecidableEq, Repr

/-- An entry of the outcome list (R164). -/
structure SyncNews where
  number : BitVec 8
  entry : SyncEntry
  outcome : SyncOutcome
  detail : Option SyncDetail
  stamp : Stamp
  deriving DecidableEq, Repr

/-- The on-timers of the correction outputs; an output is active while its on-timer runs (R156). -/
structure OnTimers where
  speedRaise : Timer := none
  speedLower : Timer := none
  voltRaise : Timer := none
  voltLower : Timer := none
  deriving DecidableEq, Repr

/-- The attempt in progress (R151 to R157): counts, the latest measurement, indications, capture and timers. Edge times are in
units of 10 us on the time base. -/
structure Attempt where
  measCount : Nat := 0
  confirm : Nat := 0
  lastRef : Option Nat := none
  period : Option Nat := none
  meas : Option Measurement := none
  live : Bool := false
  seen : Bool := false
  capture : Option Capture := none
  attemptTimer : Timer := none
  edgeRunning : Timer := none
  edgeReference : Timer := none
  periodTimer : Timer := none
  outs : OnTimers := {}
  deriving DecidableEq, Repr

/-- The synchronizer. -/
structure Sync where
  state : SyncState := .idle
  target : Option SyncEntry := none
  att : Attempt := {}
  waits : List SyncEntry := []
  outcomes : List SyncNews := []
  counter : BitVec 8 := 0
  deriving DecidableEq, Repr

/-! ### Section 10: the ledger -/

/-- Generator states (Table 10.2). -/
inductive GenState where
  | stopped | running | waiting | syncing | online | lockedOut | readmit
  deriving DecidableEq, Repr

/-- The event that last raised a failure count (Table 10.6). -/
inductive GenFailure where
  | syncFail | closeFail | reversePower
  deriving DecidableEq, Repr

/-- A generator record (Table 10.1); the rating stands in the settings. `ignoreOutcome` marks an attempt that the ledger withdrew at
lockout while it was CLOSING, whose outcome it disregards (R170; log 25). -/
structure GenRec where
  state : GenState := .stopped
  failures : Nat := 0
  warning : Bool := false
  lastFailure : Option GenFailure := none
  readmit : Nat := 0
  openBlocked : Bool := false
  ignoreOutcome : Bool := false
  deriving DecidableEq, Repr

/-- Ledger events (R175, R179). The check of RESTORE_BLOCKED is its place in the list of R179, from 1. -/
inductive LedgerEvent where
  | overloadUnresolved
  | restoreBlocked (p : Pos) (check : Nat)
  | restoreIssued (p : Pos)
  | restoreFailed (p : Pos)
  deriving DecidableEq, Repr

/-- The ledger. The head of the stack is its top. `fitDue` marks a fit count that the present boundary has found at or above the
restore delay in force; it stands only within that boundary (R177; log 6). -/
structure Ledger where
  gens : Vector GenRec 6
  stack : List Pos := []
  shedFailed : List Pos := []
  unresolved : Bool := false
  paused : Bool := false
  fitCount : Nat := 0
  fitDue : Bool := false
  candidate : Option Pos := none
  spacing : Timer := none
  lastEvent : Option LedgerEvent := none
  deriving DecidableEq, Repr

/-! ### Section 11: the station link -/

/-- A reply frame in a reply queue (R184). -/
structure Reply where
  receiver : Nat
  tag : Byte
  ident : Nat
  payload : List Byte
  deriving DecidableEq, Repr

/-- A beacon frame due on a port (R189): its index, its payload, the beacon number of its period, and the ports whose dropped
flag it carries set (B0 only). -/
structure BeaconFrame where
  ix : Nat
  payload : List Byte
  number : BitVec 16
  dropped0 : Bool := false
  dropped1 : Bool := false
  deriving DecidableEq, Repr

/-- Where a frame being sent came from (R183). `withdrawn` is a NOTICE frame that READ_NOTICES or a rewrite of the entry has
withdrawn while it was being sent (R187, R188): its end takes nothing from any source. -/
inductive FrameSource where
  | reply
  | notice (m : MasterIx)
  | beacon (f : BeaconFrame)
  | withdrawn
  deriving DecidableEq, Repr

/-- A frame as a port offers it (Table 11.7). The tag is none where no rule gives one (log 15). -/
structure OutFrame where
  source : FrameSource
  priority : Nat
  receiver : Nat
  kind : Nat
  ident : Nat
  tag : Option Byte
  payload : List Byte
  deriving DecidableEq, Repr

/-- A port of the station link (R183, R185, R186). `kept` is the source of a frame that lost arbitration and stays first to be
offered. -/
structure PortRec where
  rx : Nat := 0
  tx : Nat := 0
  silent : Bool := false
  replies : List Reply := []
  dropped : Bool := false
  beacons : List BeaconFrame := []
  sending : Option OutFrame := none
  kept : Option FrameSource := none
  deriving DecidableEq, Repr

/-- The station link controller. -/
structure Link where
  ports : Vector PortRec 2
  pendingSets : Vector NoticeSet 16
  noticeDue : List MasterIx := []
  lastPort : Vector (Option PortIx) 16
  beaconNumber : BitVec 16 := 0
  beaconTimer : Timer
  deriving DecidableEq, Repr

/-! ### Section 12: modes -/

/-- Operating modes (Table 12.5). -/
inductive Mode where
  | hold | settle | run
  deriving DecidableEq, Repr

/-- Hold causes (R198). -/
inductive HoldCause where
  | powerOn | warmReset | request | stop | secondFailure | settingsInvalid
  deriving DecidableEq, Repr

/-- The operating modes (R198, R199). -/
structure Modes where
  mode : Mode := .hold
  cause : HoldCause
  settle : Nat := 0
  deriving DecidableEq, Repr

/-- Whether the part runs, is in a warm reset, or is without power (R102, R200). -/
inductive Phase where
  | running | warmReset | off
  deriving DecidableEq, Repr

/-- A save program in progress: its capture and the bound on its time (R196). SAVE_BUSY is set exactly while one runs. -/
structure SaveProg where
  capture : Settings
  bound : Timer
  deriving DecidableEq, Repr

/-- What the block functions read and never write: supply and reset, the input lines, the time base, the non-volatile stores, the
save program, and the flag and level of Section 12 that only their own requests change. -/
structure Base where
  phase : Phase
  contacts : Vector (Bool × Bool) 23
  stopLine : Bool
  straps : Fin 32
  node : Fin 32
  timeBase : Stamp
  image : Option Settings
  lockWord : LockWord
  save : Option SaveProg
  settingsInvalid : Bool
  guard : Nat
  deriving DecidableEq, Repr

/-! ### The whole -/

/-- What one block hands to another: a pulse outcome at the event that produces it (R14), everything else "as an event of its own"
(R20, R30, R59, R99, R123, R162, R163, R198). -/
inductive Handed where
  | roundProtection
  | roundMonitor (m : Source)
  | roundLedger
  | roundSettle
  | roundStaged
  | lostProtection (c : Chan)
  | lostMonitor (m : Source)
  | feedProtection (c : FeedChange)
  | feedInterlock (c : FeedChange)
  | feedMonitors (c : FeedChange)
  | feedScenarios (c : FeedChange)
  | feedLedger (c : FeedChange)
  | posLedger (p : Pos) (now : PosState)
  | posRouter (p : Pos) (was : PosState)
  | outcomeGroup (p : Pos) (oc : PulseOutcome)
  | outcomeEngine (p : Pos) (oc : PulseOutcome)
  | outcomeSync (p : Pos) (oc : PulseOutcome)
  | outcomeLedger (p : Pos) (oc : PulseOutcome) (closing : Bool)
  | tripEngine (p : Pos) (c : TripCause)
  | tripLedger (p : Pos)
  | holdAuthority (c : HoldCause)
  | holdGroup
  | holdEngine (c : HoldCause)
  | holdSync
  | syncEngine (p : Pos) (oc : SyncOutcome)
  | syncLedger (p : Pos) (oc : Option SyncOutcome)
  | monitorEngine
  | monitorScenarios
  | layerLedger
  | runScenarios
  deriving DecidableEq, Repr

/-- The state of the DV6208. -/
structure State where
  base : Base
  set : Settings
  staged : List StagedWrite
  modes : Modes
  pos : Vector PosRec 23
  feeds : Feeds
  meas : Meas
  auth : Authority
  inter : Interlock
  prot : Protection
  router : Router
  src : Sources
  eng : Engine
  sync : Sync
  led : Ledger
  link : Link
  lockAsk : Bool
  choices : List Nat
  choiceCount : Nat
  inbox : List Handed
  pending : List Instr
  deriving DecidableEq, Repr

/-- A layer after power-on: every close entry BLOCK, every open entry PERMIT (Table 4.13). -/
def Layer.powerOn : Layer :=
  { committed := { close := Vector.replicate 23 .block, opn := Vector.replicate 23 .permit } }

/-- The part right after power-on reset of a part whose image was never saved, with every breaker open, the STOP line and WRST
not asserted and straps of 0 (log 8); every other field as the "Values After Reset" of each section say. -/
def State.reset : State where
  base :=
    { phase := .running
      contacts := Vector.replicate 23 (false, true)
      stopLine := false
      straps := 0
      node := 0
      timeBase := 0
      image := none
      lockWord := Vector.replicate 23 {}
      save := none
      settingsInvalid := true
      guard := 0 }
  set := Settings.builtIn
  staged := []
  modes := { cause := .settingsInvalid }
  pos := Vector.replicate 23 { state := .opened, feedback := .opened }
  feeds := {}
  meas :=
    { slots := Vector.replicate 34 none
      roundTimer := some 25
      chans := Vector.replicate 34 {}
      round := none }
  auth := { permits := Vector.replicate 23 none, waits := [], news := Vector.replicate 16 {} }
  inter := { layerA := Layer.powerOn, layerB := Layer.powerOn }
  prot := { recs := Vector.replicate 23 {} }
  router := { active := Vector.replicate 23 none }
  src := {}
  eng := {}
  sync := {}
  led := { gens := Vector.replicate 6 {} }
  link :=
    { ports := Vector.replicate 2 {}
      pendingSets := Vector.replicate 16 0
      lastPort := Vector.replicate 16 none
      beaconTimer := some 100 }
  lockAsk := false
  choices := []
  choiceCount := 0
  inbox := []
  pending := []

end Sys2Proof.Machine
end

