-- ==== Sys2Proof/Machine/Flags.lean ====
section
/-! DEFINITION. The flags and indications computed from the state: notice classes, what a position state counts as, decoded
feedback, timers run out, feed sets, live and dead sides, combined layer entries, bands and round classes. -/

namespace Sys2Proof.Machine

/-- The positions in order. -/
def allPos : List Pos := [0, 1, 2, 3, 4, 5, 6, 7, 8, 9, 10, 11, 12, 13, 14, 15, 16, 17, 18, 19, 20, 21, 22]

/-- The master indexes in order. -/
def allMasters : List MasterIx := [0, 1, 2, 3, 4, 5, 6, 7, 8, 9, 10, 11, 12, 13, 14, 15]

/-- The generators in order. -/
def allGens : List GenIx := [0, 1, 2, 3, 4, 5]

/-- The generator breakers QG1 to QG6. -/
def genBreakers : List Pos := [5, 6, 7, 8, 9, 10]

/-- The feeders, positions 11 to 22. -/
def feeders : List Pos := [11, 12, 13, 14, 15, 16, 17, 18, 19, 20, 21, 22]

/-- The breaker of a generator: QGn is position 4 + n (Table 0.3). -/
def genPos (g : GenIx) : Pos := ⟨5 + g.val, by omega⟩

/-- The generator of a generator breaker. -/
def genOf (p : Pos) : Option GenIx := if 5 ≤ p.val then finOf 6 (p.val - 5) else none

/-- The current channel of a position, C0 to C22. -/
def currentChan (p : Pos) : Chan := ⟨p.val, by omega⟩

/-- Voltage channel Vk, k from 0 to 10 (Table 2.2). -/
def voltChan (k : Fin 11) : Chan := ⟨23 + k.val, by omega⟩

/-- The voltage channel V(n+4) of generator n (Table 0.5). -/
def genChan (g : GenIx) : Chan := ⟨28 + g.val, by omega⟩

/-- The section of a feeder: 11 to 16 are A's, 17 to 22 are B's (Table 0.3). -/
def feederSec (p : Pos) : BusSec := if p.val ≤ 16 then .a else .b

/-- The positions of a set, in order. -/
def posMembers (m : PosMask) : List Pos := allPos.filter fun p => m.getLsbD p.val

/-- The set of the positions of a list. -/
def maskOf (ps : List Pos) : PosMask := ps.foldl (fun m p => m ||| BitVec.twoPow 23 p.val) 0

/-- The notice classes in the order of Table 11.2. -/
inductive NoticeClass where
  | trip | bf | position | permit | group | protection | engine | sync | generator | ledger | record | mode
  deriving DecidableEq, Repr

/-- The bit of a notice class (Table 11.7, note 2). -/
def NoticeClass.bit : NoticeClass → Nat
  | .trip => 0
  | .bf => 1
  | .position => 2
  | .permit => 3
  | .group => 4
  | .protection => 5
  | .engine => 6
  | .sync => 7
  | .generator => 8
  | .ledger => 9
  | .record => 10
  | .mode => 11

/-- A pending set makes its NOTICE frame urgent when it holds TRIP, BF or MODE (R187). -/
def urgentSet (n : NoticeSet) : Bool := n.getLsbD 0 || n.getLsbD 1 || n.getLsbD 11

/-- The timer has run out: its expiry is due (log 2). -/
def Timer.due (t : Timer) : Bool := t == some 0

/-- A held timer that runs has run out. -/
def HeldTimer.due (t : HeldTimer) : Bool := t == .running 0

/-- A running timer after one more millisecond (R33). -/
def Timer.tick (t : Timer) : Timer := t.map (· - 1)

/-- A held timer after one more millisecond: it moves only while it runs. -/
def HeldTimer.tick : HeldTimer → HeldTimer
  | .running r => .running (r - 1)
  | t => t

/-! ### Positions -/

/-- A position is connecting while CLOSED, OPEN_PULSE or TRIP_PULSE (R3). -/
def PosState.connecting : PosState → Bool
  | .closed | .openPulse | .tripPulse => true
  | _ => false

/-- A pulse is in flight while CLOSE_PULSE, OPEN_PULSE or TRIP_PULSE (R3). -/
def PosState.inFlight : PosState → Bool
  | .closePulse | .openPulse | .tripPulse => true
  | _ => false

/-- A commanded drive, which a stop lets run to its end (R109). -/
def PosState.commandedPulse : PosState → Bool
  | .closePulse | .openPulse => true
  | _ => false

/-- The states in which the travel and discrepancy timers run (R5, R6). -/
def PosState.supervised : PosState → Bool
  | .opened | .closed | .closePulse | .openPulse => true
  | _ => false

/-- The CLOSE line is active exactly while the state is CLOSE_PULSE (R3). -/
def PosRec.closeLine (r : PosRec) : Bool := r.state == .closePulse

/-- The TRIP line is active exactly while the state is OPEN_PULSE or TRIP_PULSE (R3). -/
def PosRec.tripLine (r : PosRec) : Bool := r.state == .openPulse || r.state == .tripPulse

/-- The decoded contact pair (Table 1.4). -/
def decodeContacts (a b : Bool) : Feedback :=
  match a, b with
  | true, false => .closed
  | false, true => .opened
  | false, false => .travelling
  | true, true => .discrepancy

/-- CLOSED and OPEN are the valid pairs (R4). -/
def Feedback.valid : Feedback → Bool
  | .closed | .opened => true
  | _ => false

/-- The state a fitted position takes from its feedback at a reset sample or when it becomes fitted (R18, Table 1.11). -/
def Feedback.restState : Feedback → PosState
  | .closed => .closed
  | .opened => .opened
  | _ => .faulty

/-! ### Feed sets -/

/-- The union of two sets of sources. -/
def SourceSet.union (x y : SourceSet) : SourceSet := ⟨x.ua || y.ua, x.ub || y.ub, x.gb || y.gb⟩

/-- The set when the condition holds, and the empty set otherwise. -/
def SourceSet.when (x : SourceSet) (c : Bool) : SourceSet := ⟨x.ua && c, x.ub && c, x.gb && c⟩

/-- The set holds no source. -/
def SourceSet.isEmpty (x : SourceSet) : Bool := !x.ua && !x.ub && !x.gb

/-- The set holds a source. -/
def SourceSet.has (x : SourceSet) : Source → Bool
  | .ua => x.ua
  | .ub => x.ub
  | .gb => x.gb

/-- The sources of a set. -/
def SourceSet.members (x : SourceSet) : List Source := [Source.ua, .ub, .gb].filter x.has

/-- The feed sets, given which positions are connecting and whether a generator breaker is CLOSED (R19): a bus is fed by the
sources attached to it or to a bus it reaches through QT, QNA and QNB. -/
def feedSets (conn : Pos → Bool) (genClosed : Bool) : Feeds :=
  let atA : SourceSet := { ua := conn 0 }
  let atB : SourceSet := { ub := conn 1 }
  let atN : SourceSet := { gb := genClosed }
  let ab := conn 2 || (conn 3 && conn 4)
  let an := conn 3 || (conn 2 && conn 4)
  let bn := conn 4 || (conn 2 && conn 3)
  { a := (atA.union (atB.when ab)).union (atN.when an)
    b := (atB.union (atA.when ab)).union (atN.when bn)
    n := (atN.union (atA.when an)).union (atB.when bn) }

/-- The feed sets of the position table, with the positions of a set counted as not connecting (R19, R73). -/
def feedsLess (pos : Vector PosRec 23) (less : PosMask) : Feeds :=
  feedSets (fun p => pos[p].state.connecting && !less.getLsbD p.val)
    (genBreakers.any fun p => pos[p].state == .closed && !less.getLsbD p.val)

/-- The feed sets of the position table (R19). -/
def feedsOf (pos : Vector PosRec 23) : Feeds := feedsLess pos 0

/-- The feed set of one bus. -/
def Feeds.get (f : Feeds) : Bus → SourceSet
  | .a => f.a
  | .b => f.b
  | .n => f.n

/-- The feed set of a section. -/
def Feeds.sec (f : Feeds) : BusSec → SourceSet
  | .a => f.a
  | .b => f.b

/-- The feed set of the section of a feeder (R174). -/
def State.feederFeed (s : State) (p : Pos) : SourceSet := s.feeds.sec (feederSec p)

/-- The bus whose feed set a fault record takes (Table 6.4). -/
def recordBus (p : Pos) : Bus :=
  if isGenBreaker p then .n
  else if p = 1 ∨ p = 4 ∨ 17 ≤ p.val then .b
  else .a

/-- The buses among the sides of a position (Tables 4.9, 8.x as R141 counts them). -/
def sideBuses (p : Pos) : List Bus :=
  match p.val with
  | 0 => [.a]
  | 1 => [.b]
  | 2 => [.a, .b]
  | 3 => [.n, .a]
  | 4 => [.n, .b]
  | _ => if isGenBreaker p then [.n] else []

/-! ### Measurements -/

/-- The voltage of a frame. -/
def Values.volt : Values → Option Nat
  | .voltage v _ => some v
  | _ => none

/-- The frequency of a frame, when it carries one. -/
def Values.freq : Values → Option Nat
  | .voltage _ f => f
  | _ => none

/-- The phase-current maximum of a frame. -/
def Values.phase : Values → Nat
  | .current i _ => i
  | .genCurrent i _ _ _ => i
  | .voltage _ _ => 0

/-- The ground current of a frame. -/
def Values.ground : Values → Nat
  | .current _ g => g
  | .genCurrent _ g _ _ => g
  | .voltage _ _ => 0

/-- Whether the frame carries power direction EXPORT (Table 2.2). -/
def Values.reverse : Values → Bool
  | .genCurrent _ _ r _ => r
  | _ => false

/-- The power magnitude of a frame. -/
def Values.power : Values → Nat
  | .genCurrent _ _ _ w => w
  | _ => 0

/-- The fields a channel gave in the last round: present only while its status is PRESENT (R28, R30). -/
def State.entry (s : State) (c : Chan) : Option Values :=
  if s.meas.chans[c].status = .present then s.meas.chans[c].last.map (·.1) else none

/-- The voltage a channel gave in the last round. -/
def State.voltNow (s : State) (c : Chan) : Option Nat := (s.entry c).bind Values.volt

/-- The frequency lies within the tolerance of the nominal frequency, both ends included (R118). -/
def Settings.freqOk (t : Settings) (f : Nat) : Bool :=
  decide (t.nominal ≤ f + t.freqTol) && decide (f ≤ t.nominal + t.freqTol)

/-- The entry is in the health band (R118, R173): voltage within the limits, frequency present and within the tolerance. -/
def Settings.inBand (t : Settings) (v : Values) : Bool :=
  match v with
  | .voltage u (some f) => decide (t.lowerVolt ≤ u) && decide (u ≤ t.upperVolt) && t.freqOk f
  | _ => false

/-! ### Layers -/

/-- The combined entry of two layer entries is PERMIT under a combine mode (Table 4.4). -/
def combinedPermit (m : CombineMode) (a b : LayerEntry) : Bool :=
  match m with
  | .aOnly => a == .permit
  | .bOnly => b == .permit
  | .both => a != .block && b != .block && !(a == .defer && b == .defer)
  | .either => a == .permit || b == .permit
  | .aOverB => if a = .defer then b == .permit else a == .permit

/-- The combined close entry of a position is PERMIT (R61). -/
def State.closePermitted (s : State) (p : Pos) : Bool :=
  combinedPermit s.set.combine s.inter.layerA.committed.close[p] s.inter.layerB.committed.close[p]

/-- The combined open entry of a position is PERMIT (R61). -/
def State.openPermitted (s : State) (p : Pos) : Bool :=
  combinedPermit s.set.combine s.inter.layerA.committed.opn[p] s.inter.layerB.committed.opn[p]

/-! ### Sides of a position (Table 4.9, R67) -/

/-- A side of a position: its sources, its voltage channel, and whether it is judged by its voltage alone (the generator side). -/
structure Side where
  sources : SourceSet
  chan : Chan
  voltOnly : Bool := false
  deriving DecidableEq, Repr

/-- How a side is judged (R67). -/
inductive SideJudgement where
  | live | dead | unknown
  deriving DecidableEq, Repr

/-- The two sides of a position 0 to 10 under given feed sets (Table 4.9); feeders have none. -/
def sidesOf (f : Feeds) (p : Pos) : Option (Side × Side) :=
  match p.val with
  | 0 => some (⟨{ ua := true }, 23, false⟩, ⟨f.a, 25, false⟩)
  | 1 => some (⟨{ ub := true }, 24, false⟩, ⟨f.b, 26, false⟩)
  | 2 => some (⟨f.a, 25, false⟩, ⟨f.b, 26, false⟩)
  | 3 => some (⟨f.n, 27, false⟩, ⟨f.a, 25, false⟩)
  | 4 => some (⟨f.n, 27, false⟩, ⟨f.b, 26, false⟩)
  | _ => (genOf p).map fun g => (⟨{ gb := true }, genChan g, true⟩, ⟨f.n, 27, false⟩)

/-- The record of one source monitor. -/
def Sources.get (t : Sources) : Source → MonRec
  | .ua => t.ua
  | .ub => t.ub
  | .gb => t.gb

/-- The record of one source monitor replaced. -/
def Sources.put (t : Sources) (m : Source) (r : MonRec) : Sources :=
  match m with
  | .ua => { t with ua := r }
  | .ub => { t with ub := r }
  | .gb => { t with gb := r }

/-- A source counts as live while its monitor is HEALTHY or FAILING (R67). -/
def State.sourceLive (s : State) (m : Source) : Bool :=
  (s.src.get m).state == .healthy || (s.src.get m).state == .failing

/-- One of the side's sources is live by its monitor; the generator side has no monitor (R67). -/
def State.sideLiveBySource (s : State) (d : Side) : Bool := !d.voltOnly && d.sources.members.any s.sourceLive

/-- The judgement of a side (R67). -/
def State.judgeSide (s : State) (d : Side) : SideJudgement :=
  if s.sideLiveBySource d then .live
  else match s.voltNow d.chan with
    | some v => if 850 ≤ v then .live else .dead
    | none => .unknown

/-- The side's voltage is at or below the residual threshold of 0.25 pu (R68). -/
def State.sideLow (s : State) (d : Side) : Bool :=
  match s.voltNow d.chan with
  | some v => decide (v ≤ 250)
  | none => false

/-- Two sources may be paralleled (R68). -/
def Settings.pairEnabled (t : Settings) (x y : Source) : Bool :=
  match x, y with
  | .ua, .ub | .ub, .ua => t.utilClosed
  | .ua, .gb | .gb, .ua | .ub, .gb | .gb, .ub => t.genClosed
  | .ua, .ua | .ub, .ub | .gb, .gb => true

/-- The pair of sides is enabled: neither source set is empty and every combination is enabled (R68). -/
def Settings.sidesEnabled (t : Settings) (x y : SourceSet) : Bool :=
  !x.isEmpty && !y.isEmpty && x.members.all fun a => y.members.all fun b => t.pairEnabled a b

/-! ### Protection -/

/-- The lower bounds of the bands of Table 5.3, times ten. -/
def bandBounds : List Nat := [10, 11, 12, 15, 20, 30, 40, 50, 60, 70, 80, 100, 120, 140, 160, 200]

/-- The band of a current at or above pickup: the row with the highest bound reached (R82). -/
def bandOf (current pickup : Nat) : Nat := (bandBounds.filter fun b => decide (pickup * b ≤ current * 10)).length - 1

/-- The increments of Table 5.4, by curve. -/
def curveTable : Nat → List Nat
  | 0 => [6, 9, 15, 35, 60, 95, 120, 140, 158, 171, 194, 202, 222, 240, 250, 273]
  | 1 => [3, 4, 9, 22, 44, 89, 133, 178, 222, 267, 311, 356, 444, 533, 622, 800]
  | 2 => [1, 2, 4, 10, 22, 60, 113, 180, 262, 360, 472, 600, 870, 1190, 1560, 2400]
  | _ => [60, 60, 60, 60, 60, 60, 60, 60, 60, 60, 60, 60, 60, 60, 60, 60]

/-- The step of a frame at or above pickup: the curve increment times 10 divided by the time multiplier, at least 1 (R82). -/
def timeStep (e : ElemSettings) (current : Nat) : Nat :=
  let inc := (curveTable e.curve).getD (bandOf current e.timePickup) 0
  let q := inc * 10 / e.timeMult
  if q = 0 then 1 else q

/-- The record of one element. -/
def ProtRec.elem (r : ProtRec) : Element → ElemRec
  | .inst => r.inst
  | .time => r.time
  | .ground => r.ground
  | .reversePower => r.rev

/-- The record of one element replaced. -/
def ProtRec.putElem (r : ProtRec) (e : Element) (x : ElemRec) : ProtRec :=
  match e with
  | .inst => { r with inst := x }
  | .time => { r with time := x }
  | .ground => { r with ground := x }
  | .reversePower => { r with rev := x }

/-- The trip cause of an element (Table 5.1). -/
def causeOf : Element → TripCause
  | .inst => .iInst
  | .time => .iTime
  | .ground => .ground
  | .reversePower => .reversePower

/-- The position has the element (Table 5.1). -/
def hasElement (p : Pos) : Element → Bool
  | .reversePower => isGenBreaker p
  | _ => true

/-- The effective choice of a section: its force, or under AUTO whether it is gen-fed (R89). -/
def effectiveChoice (f : Force) (feed : SourceSet) : Grp :=
  match f with
  | .g1 => .g1
  | .g2 => .g2
  | .auto => if feed.gb then .g2 else .g1

/-- The computed group of a position (Table 5.5). -/
def computedGroup (forceA forceB : Force) (feeds : Feeds) (p : Pos) : Grp :=
  let ea := effectiveChoice forceA feeds.a
  let eb := effectiveChoice forceB feeds.b
  if isGenBreaker p then .g1
  else if p = 2 then (if ea = .g2 ∨ eb = .g2 then .g2 else .g1)
  else if p = 0 ∨ p = 3 ∨ (11 ≤ p.val ∧ p.val ≤ 16) then ea
  else eb

/-! ### Joins (R70) -/

/-- The two sources of a join stand in one feed set. -/
def SourceSet.joins (x : SourceSet) : JoinId → Bool
  | .uaUb => x.ua && x.ub
  | .uaGb => x.ua && x.gb
  | .ubGb => x.ub && x.gb

/-- The join stands: at least one feed set holds both its sources (R70). -/
def Feeds.joined (f : Feeds) (j : JoinId) : Bool := f.a.joins j || f.b.joins j || f.n.joins j

/-- The record of one join. -/
def Joins.get (t : Joins) : JoinId → Option JoinRec
  | .uaUb => t.uaUb
  | .uaGb => t.uaGb
  | .ubGb => t.ubGb

/-- The record of one join replaced. -/
def Joins.put (t : Joins) (j : JoinId) (r : Option JoinRec) : Joins :=
  match j with
  | .uaUb => { t with uaUb := r }
  | .uaGb => { t with uaGb := r }
  | .ubGb => { t with ubGb := r }

/-! ### Scenarios (R124) -/

/-- The flag of one scenario. -/
def ScenarioFlags.get (t : ScenarioFlags) : Scenario → Bool
  | .lossBoth => t.lossBoth
  | .lossA => t.lossA
  | .lossB => t.lossB
  | .returnA => t.returnA
  | .returnB => t.returnB

/-- The monitor is LOST or DEAD. -/
def MonState.gone : MonState → Bool
  | .lost | .dead => true
  | _ => false

/-- The condition of a scenario (Table 7.7). -/
def State.condition (s : State) : Scenario → Bool
  | .lossBoth => s.src.ua.state.gone && s.src.ub.state.gone && (!s.feeds.a.gb || !s.feeds.b.gb)
  | .lossA => s.src.ua.state.gone && (s.feeds.a.ua || s.feeds.b.ua)
  | .lossB => s.src.ub.state.gone && (s.feeds.a.ub || s.feeds.b.ub)
  | .returnA => s.src.ua.state == .healthy && !s.feeds.a.ua && !s.feeds.b.ua
  | .returnB => s.src.ub.state == .healthy && !s.feeds.a.ub && !s.feeds.b.ub

/-- The condition flags as the state gives them. -/
def State.conditions (s : State) : ScenarioFlags :=
  ⟨s.condition .lossBoth, s.condition .lossA, s.condition .lossB, s.condition .returnA, s.condition .returnB⟩

/-- The urgency of a scenario (Table 7.7); 1 is the highest. -/
def Scenario.urgency : Scenario → Nat
  | .lossBoth => 1
  | .lossA | .lossB => 2
  | .returnA | .returnB => 3

/-! ### Plans (R130) -/

/-- The cells from a place on, up to and including the first END; none when an EMPTY cell comes first or no END comes. -/
def planPrefix : List (Option Step) → Option (List Step)
  | [] => none
  | none :: _ => none
  | some .finish :: _ => some [.finish]
  | some x :: rest => (planPrefix rest).map (x :: ·)

/-- The steps of a runnable slot, from cell 0 to the first END (R130). -/
def Plan.steps (p : Plan) : Option (List Step) := planPrefix p.toList

/-- The slot is runnable (R130). -/
def Plan.runnable (p : Plan) : Bool := p.steps.isSome

/-- The position 0 to 4 as a position of the table. -/
def smallPos (p : Fin 5) : Pos := ⟨p.val, by omega⟩

/-- The position a step names. -/
def Step.pos : Step → Option Pos
  | .openPos p | .closePos p | .closeSync p => some (smallPos p)
  | _ => none

/-- The position set of a slot; empty when the slot is not runnable (R130). -/
def Plan.posSet (p : Plan) : PosMask := maskOf ((p.steps.getD []).filterMap Step.pos)

/-! ### Ports (R186) -/

/-- Port states (R186). -/
inductive PortState where
  | active | warned | silent
  deriving DecidableEq, Repr

/-- The state of a port: SILENT once entered, otherwise by its counts (R186). -/
def PortRec.state (r : PortRec) : PortState :=
  if r.silent then .silent else if 64 ≤ r.rx ∨ 64 ≤ r.tx then .warned else .active

end Sys2Proof.Machine
end

