-- ==== Sys2Proof/Machine/Codec.lean ====
section
/-! DEFINITION. Bytes, checks and codes (R192, R193): numbers as bytes, the cyclic check, the station frame, the measurement frame, and
the code of every named value. -/

namespace Sys2Proof.Machine

/-- A number in `k` bytes, most significant byte first (R192). -/
def be : Nat → Nat → List Byte
  | 0, _ => []
  | k + 1, n => BitVec.ofNat 8 (n / 256 ^ k) :: be k n

/-- The number that bytes spell, most significant byte first. -/
def ofBe (bs : List Byte) : Nat := bs.foldl (fun acc b => acc * 256 + b.toNat) 0

/-- One bit of the cyclic check with polynomial x^16 + x^12 + x^5 + 1 (R192). -/
def crcBit (c : BitVec 16) : BitVec 16 := if c.msb then (c <<< 1) ^^^ 0x1021#16 else c <<< 1

/-- One byte taken into the check, from bit 7 to bit 0 (R192). -/
def crcByte (c : BitVec 16) (b : Byte) : BitVec 16 :=
  crcBit (crcBit (crcBit (crcBit (crcBit (crcBit (crcBit (crcBit (c ^^^ (b.setWidth 16 <<< 8)))))))))

/-- The check over bytes, from an initial value of all ones (R192). -/
def crc (bs : List Byte) : BitVec 16 := bs.foldl crcByte 0xFFFF#16

/-- Bytes with their check behind them. -/
def withCheck (bs : List Byte) : List Byte := bs ++ be 2 (crc bs).toNat

/-- The bytes before the check, when the check is right. -/
def checked (bs : List Byte) : Option (List Byte) :=
  let body := bs.take (bs.length - 2)
  if 2 ≤ bs.length ∧ withCheck body = bs then some body else none

/-! ### Station frames (Table 11.7) -/

/-- The fields of a station frame. `length` is the payload length its byte 1 gives, which need not be the number of payload bytes. -/
structure RawFrame where
  priority : Nat
  sender : Nat
  receiver : Nat
  length : Nat
  kind : Nat
  ident : Nat
  tag : Byte
  payload : List Byte
  deriving DecidableEq, Repr

/-- Every field fits the bits it has. -/
def RawFrame.fits (f : RawFrame) : Bool :=
  f.priority < 4 && f.sender < 32 && f.receiver < 32 && f.length < 16 && f.kind < 4 && f.ident < 64

/-- The bytes of a station frame before its check. -/
def RawFrame.body (f : RawFrame) : List Byte :=
  [BitVec.ofNat 8 (f.priority * 64 + f.sender * 2 + f.receiver / 16),
    BitVec.ofNat 8 (f.receiver % 16 * 16 + f.length),
    BitVec.ofNat 8 (f.kind * 64 + f.ident), f.tag] ++ f.payload

/-- The bytes of a station frame. -/
def RawFrame.bytes (f : RawFrame) : List Byte := withCheck f.body

/-- The payload length that byte 1 names is the number of payload bytes, and at most 10 (Table 11.7); what follows where it is not is the
model's choice (log 51). -/
def RawFrame.lengthFits (f : RawFrame) : Bool := f.length == f.payload.length && decide (f.length ≤ 10)

/-- The fields that the bytes before a check spell; none when they are fewer than the four bytes before a payload. -/
def frameOfBody : List Byte → Option RawFrame
  | b0 :: b1 :: b2 :: tag :: payload =>
    some
      { priority := b0.toNat / 64, sender := b0.toNat / 2 % 32, receiver := b0.toNat % 2 * 16 + b1.toNat / 16
        length := b1.toNat % 16, kind := b2.toNat / 64, ident := b2.toNat % 64, tag := tag, payload := payload }
  | _ => none

/-- The station frame that bytes spell, when the check is right. -/
def parseFrame (bs : List Byte) : Option RawFrame := (checked bs).bind frameOfBody

/-! ### Measurement frames (Table 11.10) -/

/-- What a measurement frame is. -/
inductive MeasFrame where
  | data (ch : Chan) (v : Values)
  | marker
  deriving DecidableEq, Repr

/-- The fields of a current frame, brought into their stored ranges (R24). -/
def currentValues (phase ground : Nat) : Values := .current (min phase 4000) (min ground 4000)

/-- The power direction byte (Table 11.10). -/
def directionOf (b : Byte) : Option Bool := if b = 0 then some false else if b = 1 then some true else none

/-- The fields of a generator current frame, brought into their stored ranges (R24). -/
def genCurrentValues (phase ground : Nat) (dir : Bool) (power : Nat) : Values :=
  .genCurrent (min phase 4000) (min ground 4000) dir (min power 500)

/-- The fields of a voltage frame, brought into their stored ranges; a frequency outside its range is absent (R24). -/
def voltageValues (volt freq : Nat) : Values :=
  .voltage (min volt 1500) (if 4000 ≤ freq ∧ freq ≤ 7000 then some freq else none)

/-- The number two bytes spell. -/
def pair (x y : Byte) : Nat := x.toNat * 256 + y.toNat

/-- The measurement frame that the bytes before a check spell, discarded when the length does not match the kind given by the channel
number, the channel number is above 33 or the power direction is neither value (R23, Table 11.10). A kind byte that is neither 0 nor 1
is no case of R23: that such a frame is discarded is the model's choice (log 41). -/
def measOfBody : List Byte → Option MeasFrame
  | [1] => some .marker
  | [0, c, a, b, d, e] =>
    (finOf 34 c.toNat).bind fun ch =>
      if 23 ≤ ch.val then some (.data ch (voltageValues (pair a b) (pair d e)))
      else if 5 ≤ ch.val ∧ ch.val ≤ 10 then none
      else some (.data ch (currentValues (pair a b) (pair d e)))
  | [0, c, a, b, d, e, dir, f, g] =>
    (finOf 34 c.toNat).bind fun ch =>
      if 5 ≤ ch.val ∧ ch.val ≤ 10 then
        (directionOf dir).map fun r => .data ch (genCurrentValues (pair a b) (pair d e) r (pair f g))
      else none
  | _ => none

/-- The measurement frame that bytes spell (R23). -/
def parseMeas (bs : List Byte) : Option MeasFrame := (checked bs).bind measOfBody

/-- The code of a port state (Table 11.8). -/
def PortState.code : PortState → Nat
  | .active => 0
  | .warned => 1
  | .silent => 2

/-! ### Codes of named values: the place in the list that defines them (R193) -/

/-- The code of a result (Table 11.6). -/
def Result.code : Result → Nat
  | .done => 0
  | .accepted => 1
  | .queued => 2
  | .hold => 3
  | .role => 4
  | .notHeld => 5
  | .heldByOther => 6
  | .alreadyWaiting => 7
  | .waitFull => 8
  | .unfitted => 9
  | .faulty => 10
  | .busy => 11
  | .tripLocked => 12
  | .shed => 13
  | .useAdmit => 14
  | .interlock => 15
  | .parallel => 16
  | .residual => 17
  | .capacity => 18
  | .maint => 19
  | .notEmpty => 20
  | .incomplete => 21
  | .guard => 22
  | .stopActive => 23
  | .settingsInvalid => 24
  | .syncFull => 25
  | .outOfWindow => 26
  | .cancelled => 27
  | .range => 28
  | .notFound => 29

/-- The code of a position state (Table 11.9). -/
def PosState.code : PosState → Nat
  | .opened => 0
  | .closePulse => 1
  | .closed => 2
  | .openPulse => 3
  | .tripPulse => 4
  | .faulty => 5
  | .unfitted => 6

/-- The code of a trip cause (Table 11.12). -/
def TripCause.code : TripCause → Nat
  | .iInst => 0
  | .iTime => 1
  | .ground => 2
  | .reversePower => 3
  | .overlap => 4
  | .unauthParallel => 5
  | .bfBackup => 6
  | .stop => 7

/-- The code of an operating mode (Table 11.8). -/
def Mode.code : Mode → Nat
  | .hold => 0
  | .settle => 1
  | .run => 2

/-- The code of a hold cause (Table 11.8). -/
def HoldCause.code : HoldCause → Nat
  | .powerOn => 1
  | .warmReset => 2
  | .request => 3
  | .stop => 4
  | .secondFailure => 5
  | .settingsInvalid => 6

/-- The code of an engine state (Table 11.8). -/
def EngState.code : EngState → Nat
  | .idle => 0
  | .running => 1
  | .suspended => 2

/-- The code of a synchronizer state (Table 11.8). -/
def SyncState.code : SyncState → Nat
  | .idle => 0
  | .measuring => 1
  | .correcting => 2
  | .inWindow => 3
  | .waitWindow => 4
  | .latched => 5
  | .closing => 6

/-- The code of a synchronizer outcome (Table 9.7). -/
def SyncOutcome.code : SyncOutcome → Nat
  | .done => 0
  | .timeout => 1
  | .closeFail => 2
  | .lostReference => 3
  | .cancelled => 4
  | .interlock => 5

/-- The code of a layer entry (R193). -/
def LayerEntry.code : LayerEntry → Nat
  | .permit => 0
  | .block => 1
  | .defer => 2

/-- The layer entry of a code. -/
def layerEntryOf : Nat → Option LayerEntry
  | 0 => some .permit
  | 1 => some .block
  | 2 => some .defer
  | _ => none

/-- The byte of a set of sources: UA in bit 2, UB in bit 1, GB in bit 0 (Table 11.12, note 2). -/
def SourceSet.code (x : SourceSet) : Nat := flagCode x.ua * 4 + flagCode x.ub * 2 + flagCode x.gb

/-- A number in one byte. -/
def byte1 (n : Nat) : List Byte := be 1 n

/-- A set of positions in three bytes, position 0 in bit 0 of the last (R193). -/
def maskBytes (m : PosMask) : List Byte := be 3 m.toNat

/-- A position in one byte. -/
def posByte (p : Pos) : List Byte := byte1 p.val

/-- A value that may be absent, in `k` bytes; all ones when absent (R190). -/
def optBytes (k : Nat) (v : Option Nat) : List Byte := be k (v.getD (256 ^ k - 1))

/-- A signed number in `k` bytes, in two's complement; all ones when absent (R193). -/
def signedBytes (k : Nat) (v : Option Int) : List Byte :=
  match v with
  | some i => be k (i % (256 ^ k : Int)).toNat
  | none => be k (256 ^ k - 1)

/-- A flag in one byte. -/
def flagByte (b : Bool) : List Byte := byte1 (flagCode b)

end Sys2Proof.Machine
end

