-- ==== Sys2Proof/Machine/Ops.lean ====
section
/-! DEFINITION. The operations every block uses: updating one record, handing an event to a block, raising a notice class, taking a
free choice, changing a position's state (R2, R20), recording and reporting a pulse outcome (R14), and the fault ring (R112,
R113). -/

namespace Sys2Proof.Machine

/-- One position record changed. -/
def State.updPos (s : State) (p : Pos) (f : PosRec → PosRec) : State := { s with pos := s.pos.set p (f s.pos[p]) }

/-- An event handed to a block, to be taken as an event of its own. -/
def State.hand (s : State) (w : Handed) : State := { s with inbox := s.inbox ++ [w] }

/-- A free choice among `k` candidates that the manual puts in no order (log 3): the next scripted choice, or the free value when
none is scripted. -/
def State.choose (s : State) (k : Nat) : Nat × State :=
  if k ≤ 1 then (0, s)
  else match s.choices with
    | c :: cs => (c % k, { s with choices := cs })
    | [] => (Config.order s.choiceCount % k, { s with choiceCount := s.choiceCount + 1 })

/-- The candidates in a freely chosen order. The number bounds the choices taken. -/
def State.permute {α : Type} : Nat → List α → State → List α × State
  | 0, xs, s => (xs, s)
  | n + 1, xs, s =>
    let pick := s.choose xs.length
    match xs[pick.1]? with
    | none => (xs, pick.2)
    | some x =>
      let rest := State.permute n (xs.eraseIdx pick.1) pick.2
      (x :: rest.1, rest.2)

/-- The candidates in a freely chosen order. -/
def State.anyOrder {α : Type} (s : State) (xs : List α) : List α × State := State.permute xs.length xs s

/-- One class added to one master's pending set, when its entry has a node and its mask holds the class; a set that stops being
empty makes a NOTICE frame due (R187). -/
def Link.raiseOne (ms : Vector MasterEntry 16) (c : NoticeClass) (l : Link) (m : MasterIx) : Link :=
  if ms[m].node.isSome && ms[m].mask.getLsbD c.bit then
    { l with
      pendingSets := l.pendingSets.set m (l.pendingSets[m] ||| BitVec.twoPow 12 c.bit)
      noticeDue := if l.pendingSets[m] = 0 then l.noticeDue ++ [m] else l.noticeDue }
  else l

/-- A port on which a withdrawn NOTICE frame is no longer the master's: one being sent takes nothing from any source at its end, and one
kept after lost arbitration is not offered again (R187, R188). -/
def PortRec.withoutNotice (r : PortRec) (m : MasterIx) : PortRec :=
  { r with
    sending := r.sending.map fun f => if f.source = .notice m then { f with source := .withdrawn } else f
    kept := if r.kept = some (.notice m) then none else r.kept }

/-- The pending set of a master emptied and its due NOTICE frame withdrawn (R187, R188). -/
def Link.withdrawNotice (l : Link) (m : MasterIx) : Link :=
  { l with
    pendingSets := l.pendingSets.set m 0
    noticeDue := l.noticeDue.filter (· ≠ m)
    ports := l.ports.map fun r => r.withoutNotice m }

/-- A class raised for every master whose mask holds it (R187). That the NOTICE frames it makes due stand in the order of the master table
is the model's choice (log 46). -/
def State.raise (s : State) (c : NoticeClass) : State :=
  { s with link := allMasters.foldl (Link.raiseOne s.set.masters c) s.link }

/-- A class raised for one master (R187). -/
def State.raiseFor (s : State) (m : MasterIx) (c : NoticeClass) : State :=
  { s with link := Link.raiseOne s.set.masters c s.link m }

/-- A raise that happens only under a condition. -/
def State.raiseIf (s : State) (b : Bool) (c : NoticeClass) : State := if b then s.raise c else s

/-- A position is fitted as the supervisor has taken it: its state is not UNFITTED (R1, R18; log 20). -/
def State.fitted (s : State) (p : Pos) : Bool := s.pos[p].state != .unfitted

/-- The events a change of a position's state hands on: to the ledger for a feeder or a generator breaker, with the new state (R167, R171,
R176), to the trip router for a position of the stop-pending set, with the state it leaves (R110). -/
def posEvents (s : State) (p : Pos) (st : PosState) : List Handed :=
  (if 5 ≤ p.val then [.posLedger p st] else []) ++ (if p ∈ s.router.stopPending then [.posRouter p s.pos[p].state] else [])

/-- The events a feed-set change hands on, each with the sets before and after, the position and its change kind (R20): to the protection
unit, the interlock evaluator, the source monitors, the scenario logic and the ledger. -/
def feedEvents (before after : Feeds) (p : Pos) (k : ChangeKind) : List Handed :=
  if before = after then []
  else
    let c : FeedChange := ⟨before, after, p, k⟩
    [.feedProtection c, .feedInterlock c, .feedMonitors c, .feedScenarios c, .feedLedger c]

/-- A change of a position's state: stamp, change kind, feed sets, POSITION notice, and the events handed on (R2, R20). A state that
stays as it is changes nothing. -/
def State.setPosState (s : State) (p : Pos) (st : PosState) (k : ChangeKind) : State :=
  if s.pos[p].state = st then s
  else
    let s1 := s.updPos p fun r => { r with state := st, lastKind := k, lastStamp := s.base.timeBase }
    let f := feedsOf s1.pos
    let s2 := State.raise { s1 with feeds := f } .position
    { s2 with inbox := s2.inbox ++ (posEvents s p st ++ feedEvents s.feeds f p k) }

/-- A pulse outcome recorded in the position record with its origin; POSITION is raised (R14). -/
def State.recordOutcome (s : State) (p : Pos) (oc : PulseOutcome) (o : Origin) : State :=
  (s.updPos p fun r => { r with lastOutcome := some (oc, o) }).raise .position

/-- Where an outcome is reported to (R14): a report to MASTER goes to no block, and the trip router takes its own reports at the
event itself. The ledger is told whether the pulse was a close (R176, R179). -/
def outcomeEvents (p : Pos) (oc : PulseOutcome) (closing : Bool) : Origin → List Handed
  | .master | .trip => []
  | .group => [.outcomeGroup p oc]
  | .engine => [.outcomeEngine p oc]
  | .sync => [.outcomeSync p oc]
  | .ledger => [.outcomeLedger p oc closing]

/-- A pulse outcome recorded and reported to the block its origin names (R14). -/
def State.report (s : State) (p : Pos) (oc : PulseOutcome) (closing : Bool) (o : Origin) : State :=
  let s1 := s.recordOutcome p oc o
  { s1 with inbox := s1.inbox ++ outcomeEvents p oc closing o }

/-- A report to whatever origin the pulse had; a pulse in flight always has one (R3). -/
def State.reportTo (s : State) (p : Pos) (oc : PulseOutcome) (closing : Bool) (o : Option Origin) : State :=
  match o with
  | some o => s.report p oc closing o
  | none => s

/-- The router with a fault record changed, found by its sequence number. -/
def Router.updRecord (t : Router) (n : BitVec 16) (f : FaultRec → FaultRec) : Router :=
  { t with ring := t.ring.map fun r => if r.seq = n then f r else r }

/-- A stored record completed, with the RECORD notice (R113). -/
def State.completeRecord (s : State) (rec : Option (BitVec 16)) (f : FaultRec → FaultOutcome) : State :=
  match rec with
  | none => s
  | some n => State.raise { s with router := s.router.updRecord n fun r => { r with outcome := f r } } .record

/-- The active trip entry of a position replaced. -/
def State.setActive (s : State) (p : Pos) (a : Option ActiveTrip) : State :=
  { s with router := { s.router with active := s.router.active.set p a } }

/-- A duration from two stamps, modulo 4294967296 (R34). -/
def duration (later earlier : Stamp) : Nat := (later - earlier).toNat

/-- The trip router takes OPENED_DONE for a trip pulse: the timer is cancelled, the entry removed, the record completed as CLEARED with
its clearing time (R104). -/
def State.tripCleared (s : State) (p : Pos) : State :=
  match s.router.active[p] with
  | none => s
  | some a =>
    (s.setActive p none).completeRecord a.record fun r => .cleared (duration s.base.timeBase r.stamp)

/-- A lock-word update asked for; asks of one event are one update (R102). -/
def State.askLock (s : State) : State := { s with lockAsk := true }

/-- The 46 flags as they stand (R102). -/
def State.lockFlags (s : State) : LockWord := s.pos.map fun r => ⟨r.tripLocked, r.bf⟩

/-- The end of an event: an update asked for in it starts a program when none runs, with a bound of 20 ms, and sets the pending flag
otherwise (R102; log 5). -/
def State.settleLock (s : State) : State :=
  if s.lockAsk then
    let s1 := { s with lockAsk := false }
    match s.router.prog with
    | none => { s1 with router := { s1.router with prog := some ⟨s.lockFlags, some 20⟩ } }
    | some _ => { s1 with router := { s1.router with progPending := true } }
  else s

/-- An upstream-trip line pulsed: active, with its 500 ms timer started or started again (R107). -/
def State.pulseUpstream (s : State) (l : Upstream) : State :=
  match l with
  | .uta => { s with router := { s.router with uta := some 500 } }
  | .utb => { s with router := { s.router with utb := some 500 } }

/-- A cause of HOLD (R198). In SETTLE or RUN it is an entry to HOLD, handed to the authority unit, the group switch, the transfer
engine and the synchronizer. In HOLD a cause of STOP or SECOND_FAILURE replaces the hold cause. -/
def State.enterHold (s : State) (c : HoldCause) : State :=
  if s.modes.mode = .hold then
    if (c = .stop ∨ c = .secondFailure) ∧ s.modes.cause ≠ c then
      State.raise { s with modes := { s.modes with cause := c } } .mode
    else s
  else
    let s1 := State.raise { s with modes := { mode := .hold, cause := c, settle := 0 } } .mode
    { s1 with inbox := s1.inbox ++ [.holdAuthority c, .holdGroup, .holdEngine c, .holdSync] }

end Sys2Proof.Machine
end

