-- ==== Sys2Proof/Machine/Supervisor.lean ====
section
/-! DEFINITION. The position supervisor (Section 1): pulse requests, contact feedback, the supervision and pulse timers, fitting. -/

namespace Sys2Proof.Machine

/-- What the position supervisor answers to a pulse request (R8): the pulse has started, it completed at once without a drive, or
it is refused with a reason. -/
inductive PulseAnswer where
  | started
  | atOnce
  | refused (r : Result)
  deriving DecidableEq, Repr

/-! ### Fitting (R18) -/

/-- The protection state of a position that becomes unfitted: its elements are cleared and stay so (R78). A freeze stands with the
channel's MEAS_LOST and not with the fitting (R93). -/
def ProtRec.cleared (r : ProtRec) : ProtRec := { r with inst := {}, time := {}, ground := {}, rev := {} }

/-- The position becomes unfitted: its supervision timers are cancelled and it stops connecting (R1, R18). -/
def State.unfit (s : State) (p : Pos) : State :=
  let s1 := s.updPos p fun r =>
    { r with closeTimer := none, openTimer := none, travelTimer := none, discTimer := none, recTimer := none }
  let s2 := { s1 with prot := { s1.prot with recs := s1.prot.recs.set p s1.prot.recs[p].cleared } }
  s2.setPosState p .unfitted .fitting

/-- The position becomes fitted: its contact pair is decoded and its state follows from it (R18). -/
def State.fit (s : State) (p : Pos) : State :=
  let c := s.base.contacts[p]
  let fb := decodeContacts c.1 c.2
  (s.updPos p fun r => { r with feedback := fb }).setPosState p fb.restState .fitting

/-- A change of the fitted flag is taken when no pulse is in flight (R18). -/
def State.takeFitting (s : State) (p : Pos) : State :=
  if s.pos[p].state.inFlight then s
  else if s.set.pos[p].fitted = s.fitted p then s
  else if s.set.pos[p].fitted then s.fit p
  else s.unfit p

/-! ### Ends of pulses -/

/-- The pulse fields removed: timers, origin and requester (R3). -/
def PosRec.pulseOver (r : PosRec) : PosRec := { r with closeTimer := none, openTimer := none, origin := none, requester := none }

/-- A pulse ends in a state, with its outcome told to its originator; a change of fitting that waited is then taken (R10, R14, R18). -/
def State.endPulse (s : State) (p : Pos) (st : PosState) (oc : PulseOutcome) : State :=
  let o := s.pos[p].origin
  (((s.updPos p PosRec.pulseOver).setPosState p st .commanded).reportTo p oc (s.pos[p].state == .closePulse) o).takeFitting p

/-- The position goes FAULTY: every supervision timer but the recovery timer is cancelled, and that one starts when the feedback is
a valid pair (R5, R6, R7). -/
def State.goFaulty (s : State) (p : Pos) (k : ChangeKind) : State :=
  (s.updPos p fun r =>
    { r.pulseOver with
      travelTimer := none
      discTimer := none
      recTimer := if r.feedback.valid then some 100 else none }).setPosState p .faulty k

/-- A supervision expiry by state (Table 1.5). -/
def State.superviseFail (s : State) (p : Pos) (k : ChangeKind) : State :=
  let o := s.pos[p].origin
  match s.pos[p].state with
  | .opened | .closed => s.goFaulty p k
  | .closePulse => ((s.goFaulty p k).reportTo p .closeFail true o).takeFitting p
  | .openPulse => ((s.goFaulty p k).reportTo p .openFail false o).takeFitting p
  | _ => s

/-- Travel timer expiry (R5). -/
def State.travelExpiry (s : State) (p : Pos) : State :=
  if s.pos[p].travelTimer.due then s.superviseFail p .travelFault else s

/-- Discrepancy timer expiry (R6). -/
def State.discExpiry (s : State) (p : Pos) : State :=
  if s.pos[p].discTimer.due then s.superviseFail p .discrepancy else s

/-- Recovery timer expiry: the position leaves FAULTY for the state its feedback shows (R7). -/
def State.recoveryExpiry (s : State) (p : Pos) : State :=
  if s.pos[p].recTimer.due && s.pos[p].state == .faulty && s.pos[p].feedback.valid then
    (s.updPos p fun r => { r with recTimer := none }).setPosState p s.pos[p].feedback.restState .recovered
  else s

/-- A close pulse ends without closed feedback: close timer expiry, or an end-drive request (R8, R10). -/
def State.closeRunsOut (s : State) (p : Pos) : State := s.endPulse p .opened .closeFail

/-- Close timer expiry (R10). -/
def State.closeExpiry (s : State) (p : Pos) : State :=
  if s.pos[p].closeTimer.due && s.pos[p].state == .closePulse then s.closeRunsOut p else s

/-- Open timer expiry: the position goes FAULTY and the originator is told OPEN_FAIL (R10). -/
def State.openExpiry (s : State) (p : Pos) : State :=
  if s.pos[p].openTimer.due && s.pos[p].state == .openPulse then
    let o := s.pos[p].origin
    ((s.goFaulty p .openFail).reportTo p .openFail false o).takeFitting p
  else s

/-- The end-drive request of the transfer engine: it ends a close pulse of origin ENGINE and nothing else (R8). -/
def State.endDrive (s : State) (p : Pos) : State :=
  if s.pos[p].state = .closePulse ∧ s.pos[p].origin = some .engine then s.closeRunsOut p else s

/-- A trip pulse ends with open feedback: the trip router takes OPENED_DONE at this event (R12, R104). -/
def State.tripOpened (s : State) (p : Pos) : State :=
  ((((s.updPos p PosRec.pulseOver).setPosState p .opened .commanded).recordOutcome p .openedDone .trip).tripCleared
    p).takeFitting p

/-- The drive of a trip pulse ended at breaker-failure expiry; the state is taken from the feedback (R12). True when the breaker shows
open, so that the answer is OPENED_DONE and not BF_EXPIRED. -/
def State.endTripDrive (s : State) (p : Pos) : Bool × State :=
  let s1 := s.updPos p PosRec.pulseOver
  match s.pos[p].feedback with
  | .opened => (true, (s1.setPosState p .opened .commanded).recordOutcome p .openedDone .trip)
  | .closed => (false, (s1.setPosState p .closed .commanded).recordOutcome p .bfExpired .trip)
  | _ => (false, (s1.setPosState p .faulty .travelFault).recordOutcome p .bfExpired .trip)

/-! ### Contact feedback -/

/-- The supervision timers after the decoded feedback has changed, in the states that run them (R5, R6). -/
def PosRec.superviseFeedback (r : PosRec) (old new : Feedback) (limit : Nat) : PosRec :=
  { r with
    travelTimer := if new.valid then none else if old.valid then some limit else r.travelTimer
    discTimer := if new = .discrepancy then some 30 else none }

/-- The record with the new feedback and the timers that follow from it (R4 to R7). -/
def PosRec.takeFeedback (r : PosRec) (new : Feedback) (limit : Nat) : PosRec :=
  let r1 := { r with feedback := new }
  if r.state.supervised then r1.superviseFeedback r.feedback new limit
  else if r.state = .faulty then { r1 with recTimer := if new.valid then some 100 else none }
  else r1

/-- A changed feedback value acted on for the present state (R4, R10, R12, R16, R17). -/
def State.actOnFeedback (s : State) (p : Pos) : State :=
  match s.pos[p].state, s.pos[p].feedback with
  | .opened, .closed => s.setPosState p .closed .uncommandedClose
  | .closed, .opened => s.setPosState p .opened .uncommandedOpen
  | .closePulse, .closed => s.endPulse p .closed .closedDone
  | .openPulse, .opened => s.endPulse p .opened .openedDone
  | .tripPulse, .opened => s.tripOpened p
  | _, _ => s

/-- A change of a contact pair (R4): the level is the line's; a fitted position of a running part decodes it. -/
def State.contactChange (s : State) (p : Pos) (a b : Bool) : State :=
  let s1 := { s with base := { s.base with contacts := s.base.contacts.set p (a, b) } }
  if s.base.phase = .running ∧ s.fitted p = true ∧ decodeContacts a b ≠ s.pos[p].feedback then
    (s1.updPos p fun r => r.takeFeedback (decodeContacts a b) s.set.pos[p].travelLimit).actOnFeedback p
  else s1

/-! ### Pulse requests (R8, R9, Table 1.6) -/

/-- The position holds a MAINTENANCE permit that turns this origin away (R9, third condition). -/
def State.maintRefuses (s : State) (p : Pos) (o : Origin) (req : Option MasterIx) : Bool :=
  match s.auth.permits[p] with
  | some (.maintenance m) => o == .engine || o == .ledger || (o == .group && req != some m)
  | _ => false

/-- The conditions of R9 for a close pulse, in their order. -/
def State.closeRefused (s : State) (p : Pos) (o : Origin) (req : Option MasterIx) : Option Result :=
  if s.pos[p].tripLocked || s.pos[p].bf then some .tripLocked
  else if s.modes.mode ≠ .run then some .hold
  else if s.maintRefuses p o req then some .maint
  else none

/-- A close pulse starts (R10). -/
def State.startClose (s : State) (p : Pos) (o : Origin) (req : Option MasterIx) : State :=
  (s.updPos p fun r =>
    { r with origin := some o, requester := req, closeTimer := some s.set.pos[p].closeWidth }).setPosState p .closePulse
      .commanded

/-- An open pulse starts (R10). -/
def State.startOpen (s : State) (p : Pos) (o : Origin) (req : Option MasterIx) : State :=
  (s.updPos p fun r =>
    { r with origin := some o, requester := req, openTimer := some s.set.pos[p].bfTime }).setPosState p .openPulse .commanded

/-- A CLOSE request (Table 1.6). -/
def State.closeRequest (s : State) (p : Pos) (o : Origin) (req : Option MasterIx) : PulseAnswer × State :=
  match s.pos[p].state with
  | .opened => match s.closeRefused p o req with
    | some r => (.refused r, s)
    | none => (.started, s.startClose p o req)
  | .closed => (.atOnce, s.recordOutcome p .closedDone o)
  | .closePulse | .openPulse | .tripPulse => (.refused .busy, s)
  | .faulty => (.refused .faulty, s)
  | .unfitted => (.refused .unfitted, s)

/-- An OPEN request (Table 1.6). -/
def State.openRequest (s : State) (p : Pos) (o : Origin) (req : Option MasterIx) : PulseAnswer × State :=
  match s.pos[p].state with
  | .closed => if s.maintRefuses p o req then (.refused .maint, s) else (.started, s.startOpen p o req)
  | .opened => (.atOnce, s.recordOutcome p .openedDone o)
  | .closePulse | .openPulse | .tripPulse => (.refused .busy, s)
  | .faulty => (.refused .faulty, s)
  | .unfitted => (.refused .unfitted, s)

/-- A trip pulse starts: the drive in flight, if any, is taken over and its originator told, and every supervision timer is cancelled
(R11). -/
def State.startTrip (s : State) (p : Pos) : State :=
  let o := s.pos[p].origin
  let s1 := s.updPos p fun r =>
    { r with
      origin := some .trip, requester := none, closeTimer := none, openTimer := none
      travelTimer := none, discTimer := none, recTimer := none }
  (s1.setPosState p .tripPulse .commanded).reportTo p .takenByTrip (s.pos[p].state == .closePulse) o

/-- A trip request completes at once: the state is or becomes OPEN and no line is driven (R11). -/
def State.tripAtOnce (s : State) (p : Pos) : State :=
  ((s.updPos p fun r => { r with recTimer := none }).setPosState p .opened .commanded).recordOutcome p .openedDone .trip

/-- A TRIP request (Table 1.6, R11). -/
def State.tripPulse (s : State) (p : Pos) : PulseAnswer × State :=
  match s.pos[p].state with
  | .unfitted => (.refused .unfitted, s)
  | .tripPulse => (.started, s)
  | .opened | .faulty =>
    if s.pos[p].feedback = .opened then (.atOnce, s.tripAtOnce p) else (.started, s.startTrip p)
  | .closed | .closePulse | .openPulse => (.started, s.startTrip p)

end Sys2Proof.Machine
end

