-- ==== Sys2Proof/Machine/Router.lean ====
section
/-! DEFINITION. The trip router (Section 6): trip requests, breaker failure, upstream lines, station stop, the lock word and the fault
ring. -/

namespace Sys2Proof.Machine

/-! ### Flags and records -/

/-- TRIP_LOCKED set on a position unless the cause is OVERLAP; a change asks for a lock-word update (R99, R100, R102). A secondary cause
asks for one in the same way: R101 names the update without the change, and the model asks for none when the flag stood (log 34). -/
def State.lockFor (s : State) (p : Pos) (c : TripCause) : State :=
  if c = .overlap ∨ s.pos[p].tripLocked = true then s
  else (s.updPos p fun r => { r with tripLocked := true }).askLock

/-- BF set on a position, with a lock-word update (R105). The update is asked for although BF may be set already, where R102 names
changes only (log 34). -/
def State.setBf (s : State) (p : Pos) : State := (s.updPos p fun r => { r with bf := true }).askLock

/-- A new fault record appended when the ring has room; the overrun flag otherwise (R112). The answer names the record. -/
def State.storeRecord (s : State) (p : Pos) (c : TripCause) (value : Option Nat) (grp : Grp) (parent : Option (BitVec 16)) :
    Option (BitVec 16) × State :=
  if s.router.ring.length < 32 then
    let fresh : FaultRec :=
      { seq := s.router.nextSeq, stamp := s.base.timeBase, pos := p, cause := c, value := value, grp := grp
        feed := s.feeds.get (recordBus p), parent := parent, secondary := [], outcome := .opened }
    (some s.router.nextSeq,
      State.raise { s with router := { s.router with ring := s.router.ring ++ [fresh], nextSeq := s.router.nextSeq + 1 } } .record)
  else if s.router.overrun then (none, s)
  else (none, State.raise { s with router := { s.router with overrun := true } } .record)

/-- A trip handed to the transfer engine, and a reverse-power trip of a generator breaker to the ledger (R99, R100). -/
def State.handTrip (s : State) (p : Pos) (c : TripCause) : State :=
  let s1 := s.hand (.tripEngine p c)
  if c = .reversePower ∧ isGenBreaker p = true then s1.hand (.tripLedger p) else s1

/-! ### Trip requests -/

/-- A trip pulse has started: entry and breaker-failure timer, lock, record, TRIP notice, and the trip handed on (R99). -/
def State.tripStarted (s : State) (p : Pos) (c : TripCause) (value : Option Nat) (grp : Grp) (parent : Option (BitVec 16)) :
    State :=
  let stored := s.storeRecord p c value grp parent
  let s1 := stored.2.setActive p (some
    { cause := c, backup := c == .bfBackup, record := stored.1, timer := some s.set.pos[p].bfTime, parent := parent })
  ((s1.lockFor p c).raise .trip).handTrip p c

/-- A trip that completed at once: lock, TRIP notice, and the trip handed on (R100). -/
def State.tripDoneAtOnce (s : State) (p : Pos) (c : TripCause) : State := ((s.lockFor p c).raise .trip).handTrip p c

/-- The cause is already held by the entry, or there is no room for it (R101). -/
def ActiveTrip.closedTo (a : ActiveTrip) (c : TripCause) : Bool :=
  a.cause == c || a.secondary.contains c || decide (3 ≤ a.secondary.length)

/-- A trip request for a position in TRIP_PULSE: a secondary cause of the active entry (R101). -/
def State.secondaryCause (s : State) (p : Pos) (c : TripCause) : State :=
  match s.router.active[p] with
  | none => s
  | some a =>
    if a.closedTo c then s
    else
      let s1 := s.setActive p (some { a with secondary := a.secondary ++ [c], backup := a.backup || c == .bfBackup })
      let s2 := if a.cause = .overlap then s1.lockFor p c else s1
      match a.record with
      | none => s2
      | some n =>
        State.raise
          { s2 with router := s2.router.updRecord n fun r => { r with secondary := a.secondary ++ [c] } } .record

/-- A trip request taken against the state of its position (R98). -/
def State.tripRequest (s : State) (p : Pos) (c : TripCause) (value : Option Nat) (grp : Grp) (parent : Option (BitVec 16)) :
    State :=
  if s.pos[p].state = .tripPulse then s.secondaryCause p c
  else match s.tripPulse p with
    | (.started, s1) => s1.tripStarted p c value grp parent
    | (.atOnce, s1) => s1.tripDoneAtOnce p c
    | (.refused _, _) => s

/-- A trip request of a cause that carries no value: the group is the active group at the event (Table 6.1). -/
def State.tripPlain (s : State) (p : Pos) (c : TripCause) (parent : Option (BitVec 16)) : State :=
  s.tripRequest p c none s.prot.recs[p].active parent

/-! ### Breaker failure -/

/-- The backup row of a position (Table 6.2). -/
def backupRow (p : Pos) : List Pos :=
  match p.val with
  | 0 => [2, 3]
  | 1 => [2, 4]
  | 2 => [0, 1, 3, 4]
  | 3 => [0, 2] ++ genBreakers
  | 4 => [1, 2] ++ genBreakers
  | _ =>
    if isGenBreaker p then [3, 4] ++ genBreakers.filter (· ≠ p)
    else match feederSec p with
      | .a => [0, 2, 3]
      | .b => [1, 2, 4]

/-- The backup set of a failed position, in position order (R106). -/
def State.backupSet (s : State) (p : Pos) : List Pos :=
  (backupRow p).filter fun q => s.pos[q].state.connecting && !s.pos[q].bf

/-- The upstream-trip line of a failed position (Table 6.2). -/
def upstreamOf (p : Pos) : Option Upstream :=
  match p.val with
  | 0 => some .uta
  | 1 => some .utb
  | _ => none

/-- The backup trips of a failure, each taken by R98 (R105). -/
def State.backupTrips (s : State) (ps : List Pos) (parent : Option (BitVec 16)) : State :=
  ps.foldl (fun s q => s.tripPlain q .bfBackup parent) s

/-- The failure of a trip whose drive has ended with the breaker not open (R105 steps 2 to 7, R108). -/
def State.breakerFailed (s : State) (p : Pos) (a : ActiveTrip) : State :=
  let s1 := (s.setBf p).setActive p none
  let backups := s1.backupSet p
  let s2 := s1.backupTrips backups a.record
  if a.backup then
    (((((s2.pulseUpstream .uta).pulseUpstream .utb).enterHold .secondFailure).completeRecord a.record
      fun _ => .backupFailed backups).raise .bf)
  else
    let s3 := match upstreamOf p with
      | some l => s2.pulseUpstream l
      | none => s2
    ((s3.completeRecord a.record fun _ => .backup backups).raise .bf)

/-- Breaker-failure expiry of the active trip on a position (R105). -/
def State.bfExpiry (s : State) (p : Pos) : State :=
  match s.router.active[p] with
  | none => s
  | some a =>
    if a.timer.due && s.pos[p].state == .tripPulse then
      let ended := s.endTripDrive p
      if ended.1 then (ended.2.tripCleared p).takeFitting p
      else (ended.2.breakerFailed p a).takeFitting p
    else s

/-- The line timer of an upstream-trip line runs out (R107). -/
def State.upstreamExpiry (s : State) (l : Upstream) : State :=
  match l with
  | .uta => if s.router.uta.due then { s with router := { s.router with uta := none } } else s
  | .utb => if s.router.utb.due then { s with router := { s.router with utb := none } } else s

/-! ### Station stop -/

/-- A position joins the stop-pending set (R109). -/
def State.stopLater (s : State) (p : Pos) : State :=
  if p ∈ s.router.stopPending then s else { s with router := { s.router with stopPending := s.router.stopPending ++ [p] } }

/-- The stop acting on one position of its mask (R109). -/
def State.stopOne (s : State) (p : Pos) : State :=
  if s.pos[p].state.commandedPulse then s.stopLater p else s.tripPlain p .stop none

/-- The positions a stop acts on: fitted, with the stop-mask entry TRIP (R109). -/
def State.stopMask (s : State) : List Pos := allPos.filter fun p => s.fitted p && s.set.pos[p].stopTrip

/-- An assertion of the STOP line: the positions of the mask in a freely chosen order, and HOLD with cause STOP (R109; log 3). -/
def State.doStop (s : State) : State :=
  let picked := s.anyOrder s.stopMask
  (picked.1.foldl State.stopOne picked.2).enterHold .stop

/-- The router takes a change of state of a position of the stop-pending set, from the state it left: at the change that leaves its pulse the
position leaves the set, and a trip request with cause STOP is taken by R98 against the state found (R97, R110). So one that has begun
another drive since then, as an open of the ledger (R171), has that drive taken from it. A position that left its pulse to OPEN with
other than open feedback gets a trip pulse, by R11 and R98 (log 34). -/
def State.stopPendingChange (s : State) (p : Pos) (was : PosState) : State :=
  if p ∈ s.router.stopPending ∧ was.commandedPulse = true then
    State.tripPlain { s with router := { s.router with stopPending := s.router.stopPending.filter (· ≠ p) } } p .stop none
  else s

/-! ### The lock word and the ring -/

/-- A lock-word program completes: the lock word holds its capture; a pending update starts the next program at once (R102). -/
def State.lockProgramComplete (s : State) : State :=
  match s.router.prog with
  | none => s
  | some g =>
    let s1 := { s with base := { s.base with lockWord := g.capture } }
    if s.router.progPending then
      { s1 with router := { s1.router with prog := some ⟨s.lockFlags, some 20⟩, progPending := false } }
    else { s1 with router := { s1.router with prog := none } }

/-- RECORD_RELEASE by a master of a role that may send it (R115). -/
def State.recordRelease (s : State) (seq : Nat) : Result × State :=
  match s.router.ring with
  | [] => (.notFound, s)
  | r :: rest =>
    if r.seq.toNat ≠ seq then (.notFound, s)
    else if r.outcome = .opened then (.incomplete, s)
    else (.done,
      { s with router := { s.router with ring := rest, overrun := if rest = [] then false else s.router.overrun } })

end Sys2Proof.Machine
end

