-- ==== Sys2Proof/Machine/Authority.lean ====
section
/-! DEFINITION. The authority unit (Section 3): the master match, permits, the wait list and its scan, permit news; and the answer every
request gets. -/

namespace Sys2Proof.Machine

/-- The answer to a request: its result code, the data of its reply, and the part of a readout it is (R184, R193). -/
structure Answer where
  code : Result
  data : List Byte := []
  part : Nat := 0
  parts : Nat := 1
  deriving DecidableEq, Repr

/-- An answer that leaves the state as it is. -/
def State.answer (s : State) (r : Result) (data : List Byte := []) : Answer × State := ({ code := r, data := data }, s)

/-! ### Masters and roles -/

/-- The master a sender node matches: the entry of lowest index whose node equals it (R36). -/
def State.matchMaster (s : State) (node : Nat) : Option MasterIx :=
  allMasters.find? fun m => match s.set.masters[m].node with
    | some n => n.val == node
    | none => false

/-- The role of a master. -/
def State.roleOf (s : State) (m : MasterIx) : Role := s.set.masters[m].role

/-- A STATION role. -/
def Role.station : Role → Bool
  | .stationA | .stationB => true
  | _ => false

/-- A STATION role or MAINT. -/
def Role.stationOrMaint : Role → Bool
  | .stationA | .stationB | .maint => true
  | _ => false

/-- The role may hold a permit of the kind on the position (R37). -/
def Role.mayHold (r : Role) (k : PermitKind) (p : Pos) : Bool :=
  match r with
  | .stationA | .stationB | .maint => true
  | .gen g => k == .operate && p == genPos g
  | .view => false

/-! ### Permits -/

/-- One permit entry replaced. -/
def State.setPermit (s : State) (p : Pos) (v : Option Permit) : State :=
  { s with auth := { s.auth with permits := s.auth.permits.set p v } }

/-- The master holds the position under OPERATE or MAINTENANCE. -/
def State.holds (s : State) (m : MasterIx) (p : Pos) : Bool :=
  match s.auth.permits[p] with
  | some (.operate h _) => h == m
  | some (.maintenance h) => h == m
  | _ => false

/-- A full lease: the lease length in force, in milliseconds (R39). -/
def State.fullLease (s : State) : Timer := some (s.set.leaseLength * 1000)

/-- A permit with its lease started again, when it is the master's OPERATE permit (R39). -/
def Permit.renewed (lease : Timer) (m : MasterIx) : Permit → Permit
  | .operate h old => .operate h (if h = m then lease else old)
  | x => x

/-- The lease of the holder's OPERATE permit on a position renewed; any other entry stays (R39). -/
def State.renew (s : State) (m : MasterIx) (p : Pos) : State :=
  s.setPermit p (s.auth.permits[p].map (Permit.renewed s.fullLease m))

/-- A new permit of a kind. -/
def State.newPermit (s : State) (m : MasterIx) : PermitKind → Permit
  | .operate => .operate m s.fullLease
  | .maintenance => .maintenance m

/-- The position is free, or held by the requester with the kind (R42, R44). -/
def State.grantable (s : State) (m : MasterIx) (k : PermitKind) (p : Pos) : Bool :=
  match s.auth.permits[p] with
  | none => true
  | some (.operate h _) => k == .operate && h == m
  | some (.maintenance h) => k == .maintenance && h == m
  | some .engine => false

/-- Permits of the requester with the kind on every position of the mask, each OPERATE lease from its full length (R42, R45). -/
def State.grant (s : State) (m : MasterIx) (k : PermitKind) (mask : PosMask) : State :=
  (posMembers mask).foldl (fun s p => s.setPermit p (some (s.newPermit m k))) s

/-! ### Permit news (R53) -/

/-- The list with a new entry at its end, the oldest leaving when eight are held. -/
def pushBounded {α : Type} (xs : List α) (x : α) : List α := (if 8 ≤ xs.length then xs.drop 1 else xs) ++ [x]

/-- A news entry appended for one master, with the PERMIT notice (R53). -/
def State.pushNews (s : State) (m : MasterIx) (oc : NewsOutcome) (operate maintenance : PosMask) (cause : Option NewsCause) :
    State :=
  let box := s.auth.news[m]
  let entry : News := ⟨box.counter + 1, oc, operate, maintenance, cause⟩
  let s1 := { s with
    auth := { s.auth with news := s.auth.news.set m { counter := box.counter + 1, list := pushBounded box.list entry } } }
  s1.raiseFor m .permit

/-- A news entry for a mask of one kind. -/
def State.pushKindNews (s : State) (m : MasterIx) (oc : NewsOutcome) (k : PermitKind) (mask : PosMask)
    (cause : Option NewsCause) : State :=
  match k with
  | .operate => s.pushNews m oc mask 0 cause
  | .maintenance => s.pushNews m oc 0 mask cause

/-! ### The wait list (R44 to R46) -/

/-- A scan from head to tail. The claimed set grows by each entry not granted; the answer keeps the entries that stay (R44). -/
def State.scanFrom : List WaitEntry → PosMask → List WaitEntry → State → List WaitEntry × State
  | [], _, kept, s => (kept, s)
  | e :: rest, claimed, kept, s =>
    if (posMembers e.mask).all (s.grantable e.requester e.kind) && (e.mask &&& claimed) == 0 then
      State.scanFrom rest claimed kept
        ((s.grant e.requester e.kind e.mask).pushKindNews e.requester .granted e.kind e.mask none)
    else State.scanFrom rest (claimed ||| e.mask) (kept ++ [e]) s

/-- The wait list scanned (R44). A grant is made in RUN only: on entry to HOLD no scan is made before the list is emptied (R45, R52). -/
def State.scan (s : State) : State :=
  if s.modes.mode = .run then
    let r := State.scanFrom s.auth.waits 0 [] s
    { r.2 with auth := { r.2.auth with waits := r.1 } }
  else s

/-- Lease expiry: the permit is freed with EXPIRED news, and the list scanned (R39). -/
def State.leaseExpiry (s : State) (p : Pos) : State :=
  match s.auth.permits[p] with
  | some (.operate m lease) =>
    if lease.due then ((s.setPermit p none).pushNews m .expired (maskOf [p]) 0 none).scan else s
  | _ => s

/-- Wait timer expiry: the entry leaves as TIMED_OUT, and the list is scanned (R46). -/
def State.waitExpiry (s : State) (m : MasterIx) : State :=
  match s.auth.waits.find? fun e => e.requester == m && e.wait.due with
  | none => s
  | some e =>
    let s1 := { s with auth := { s.auth with waits := s.auth.waits.filter fun x => x.requester != m } }
    (s1.pushKindNews m .timedOut e.kind e.mask none).scan

/-! ### Requests -/

/-- The wait timer of a request: its wait time, or the default wait when it gave 0 (R43). -/
def State.waitLength (s : State) (t : Nat) : Timer := some ((if t = 0 then s.set.defaultWait else t) * 1000)

/-- The kind of a PERMIT_REQ (R193). -/
def permitKindOf : Nat → Option PermitKind
  | 0 => some .operate
  | 1 => some .maintenance
  | _ => none

/-- The holder of a permit as a reply names it: a master index, or all ones for ENGINE. -/
def Permit.holderByte : Permit → List Byte
  | .operate m _ => byte1 m.val
  | .maintenance m => byte1 m.val
  | .engine => byte1 255

/-- A request that has passed its checks and cannot be granted at once (R43). -/
def State.permitWait (s : State) (m : MasterIx) (k : PermitKind) (mask : PosMask) (wait : Bool) (time : Nat) : Answer × State :=
  if wait then
    if 16 ≤ s.auth.waits.length then s.answer .waitFull
    else ({ code := .queued },
      { s with auth := { s.auth with waits := s.auth.waits ++ [⟨m, mask, k, s.waitLength time⟩] } })
  else match (posMembers mask).find? fun p => !s.grantable m k p with
    | some p => s.answer .heldByOther (posByte p ++ (s.auth.permits[p].map Permit.holderByte).getD [])
    | none => s.answer .heldByOther

/-- PERMIT_REQ after the master match: the checks of Table 3.5 and the grant test (R41, R42, R43). -/
def State.permitReq (s : State) (m : MasterIx) (mask : PosMask) (kind : Nat) (wait : Bool) (time : Nat) : Answer × State :=
  match permitKindOf kind with
  | none => s.answer .range
  | some k =>
    if mask = 0 ∨ (wait = true ∧ 30 < time) then s.answer .range
    else if s.modes.mode ≠ .run then s.answer .hold
    else match (posMembers mask).find? fun p => !(s.roleOf m).mayHold k p with
      | some p => s.answer .role (posByte p)
      | none => match (posMembers mask).find? fun p => !s.fitted p with
        | some p => s.answer .unfitted (posByte p)
        | none =>
          if s.auth.waits.any fun e => e.requester == m then s.answer .alreadyWaiting
          else if (posMembers mask).all (s.grantable m k) then ({ code := .done }, s.grant m k mask)
          else s.permitWait m k mask wait time

/-- The answer of a release or renewal: DONE when every position was held, and otherwise the mask of those not held. -/
def heldAnswer (notHeld : PosMask) : Answer := if notHeld = 0 then { code := .done } else { code := .notHeld, data := maskBytes notHeld }

/-- PERMIT_RELEASE after the master match (R48). -/
def State.permitRelease (s : State) (m : MasterIx) (mask : PosMask) (withdraw : Bool) : Answer × State :=
  if mask = 0 ∧ withdraw = false then s.answer .range
  else
    let held := (posMembers mask).filter (s.holds m)
    let notHeld := maskOf ((posMembers mask).filter fun p => !s.holds m p)
    let left := withdraw && s.auth.waits.any fun e => e.requester == m
    let s1 := held.foldl (fun s p => s.setPermit p none) s
    let s2 := if withdraw then
      { s1 with auth := { s1.auth with waits := s1.auth.waits.filter fun e => e.requester != m } } else s1
    (heldAnswer notHeld, if left || !held.isEmpty then s2.scan else s2)

/-- PERMIT_RENEW after the master match (R49). -/
def State.permitRenew (s : State) (m : MasterIx) (mask : PosMask) : Answer × State :=
  if mask = 0 then s.answer .range
  else (heldAnswer (maskOf ((posMembers mask).filter fun p => !s.holds m p)),
    (posMembers mask).foldl (fun s p => s.renew m p) s)

/-! ### The engine and HOLD -/

/-- The positions of a list on which the master holds an OPERATE permit. -/
def State.operateOf (s : State) (m : MasterIx) (ps : List Pos) : List Pos :=
  ps.filter fun p => match s.auth.permits[p] with
    | some (.operate h _) => h == m
    | _ => false

/-- The positions of a list on which the master holds a MAINTENANCE permit. -/
def State.maintenanceOf (s : State) (m : MasterIx) (ps : List Pos) : List Pos :=
  ps.filter fun p => match s.auth.permits[p] with
    | some (.maintenance h) => h == m
    | _ => false

/-- REVOKED news for one master that loses permits to an engine start (R50). -/
def State.engineRevokes (lost : State) (set : PosMask) (s : State) (m : MasterIx) : State :=
  let ps := lost.operateOf m (posMembers set)
  if ps = [] then s else s.pushNews m .revoked (maskOf ps) 0 (some .engineStart)

/-- A position of the set under ENGINE, when it is fitted (R50). -/
def State.engineTakes (s : State) (p : Pos) : State := if s.fitted p then s.setPermit p (some .engine) else s.setPermit p none

/-- The transfer engine takes the permits of a position set; none when a MAINTENANCE permit refuses it (R50). That
the masters are given their news in the order of the master table is the model's choice (log 46). -/
def State.engineStartPermits (s : State) (set : PosMask) : Option State :=
  if (posMembers set).any fun p => match s.auth.permits[p] with
      | some (.maintenance _) => true
      | _ => false
  then none
  else
    let s1 := (posMembers set).foldl State.engineTakes s
    some (allMasters.foldl (State.engineRevokes s set) s1).scan

/-- The transfer engine releases all its permits (R51). -/
def State.engineRelease (s : State) : State :=
  (allPos.foldl (fun s p => if s.auth.permits[p] = some .engine then s.setPermit p none else s) s).scan

/-- The cause a hold gives permit news (R52). -/
def HoldCause.news : HoldCause → NewsCause
  | .stop => .stop
  | _ => .hold

/-- REVOKED and WAIT_CANCELLED news of one master on entry to HOLD (R52). Where a master has both, the rule gives no order: that REVOKED
is numbered first is the model's choice (log 42). -/
def State.holdNews (lost : State) (c : HoldCause) (s : State) (m : MasterIx) : State :=
  let o := lost.operateOf m allPos
  let mt := lost.maintenanceOf m allPos
  let s1 := if o = [] ∧ mt = [] then s else s.pushNews m .revoked (maskOf o) (maskOf mt) (some c.news)
  match lost.auth.waits.find? fun e => e.requester == m with
  | some e => s1.pushKindNews m .waitCancelled e.kind e.mask (some c.news)
  | none => s1

/-- Entry to HOLD at the authority unit: every permit is revoked and the wait list emptied (R52). That the masters are given their
news in the order of the master table is the model's choice (log 46). -/
def State.authorityHold (s : State) (c : HoldCause) : State :=
  allMasters.foldl (State.holdNews s c)
    { s with auth := { s.auth with permits := Vector.replicate 23 none, waits := [] } }

end Sys2Proof.Machine
end

