-- ==== Sys2Proof/Machine/Operands.lean ====
section
/-! DEFINITION. The operands of the requests as the reader of a field sees them: positions, generators, codes, and ranges (R193 and the
"Fields" columns of the request tables). -/

namespace Sys2Proof.Machine

/-- A position 0 to 22. -/
def posOf (n : Nat) : Option Pos := finOf 23 n

/-- A position 0 to 10, one that can be synchronized or corrected. -/
def syncPosOf (n : Nat) : Option Pos := (finOf 11 n).map fun p => ⟨p.val, by omega⟩

/-- A feeder, 11 to 22. -/
def feederOf (n : Nat) : Option Pos := (posOf n).bind fun p => if isFeeder p then some p else none

/-- A generator, 1 to 6. -/
def genIxOf (n : Nat) : Option GenIx := if n = 0 then none else finOf 6 (n - 1)

/-- A synchronizing mode: 0 AUTO, 1 STEPPED. -/
def syncModeOf : Nat → Option SyncMode
  | 0 => some .auto
  | 1 => some .stepped
  | _ => none

/-- A section: 0 A, 1 B. -/
def secOf : Nat → Option BusSec
  | 0 => some .a
  | 1 => some .b
  | _ => none

/-- A group choice: 0 G1, 1 G2, 2 AUTO (R91). -/
def forceOf : Nat → Option Force
  | 0 => some .g1
  | 1 => some .g2
  | 2 => some .auto
  | _ => none

/-- The marked action of a group switch: 0 OPEN, 1 CLOSE (Table 4.11). True is CLOSE. -/
def markedOf (n : Nat) : Option Bool := flagOf n

/-- The unmarked action of a group switch: 0 OPEN, 1 CLOSE, 2 LEAVE (Table 4.11). -/
def unmarkedOf : Nat → Option (Option Bool)
  | 0 => some (some false)
  | 1 => some (some true)
  | 2 => some none
  | _ => none

end Sys2Proof.Machine
end

