-- ==== Sys2Proof/Machine/Checks.lean ====
section
/-! DEFINITION. The checks every close and open path shares: the acceptance checks of Table 4.8, the parallel rule (R67, R68) and the
capacity quantities (R69, R174). -/

namespace Sys2Proof.Machine

/-- The first refusal of a list of checks made in order. -/
def firstRefusal (cs : List (Option Result)) : Option Result := cs.findSome? id

/-- A check: refused with the result when the condition does not hold. -/
def require (ok : Bool) (r : Result) : Option Result := if ok then none else some r

/-! ### Capacity (R174) -/

/-- Online capacity: the ratings of the generators ONLINE, times the margin, divided by 100 (R174). -/
def State.capacity (s : State) : Nat :=
  ((allGens.filter fun g => s.led.gens[g].state == .online).map fun g => s.set.ratings[g]).sum * s.set.margin / 100

/-- The feeder may be carrying load (R174). -/
def PosRec.carrying (r : PosRec) : Bool :=
  match r.state with
  | .closed | .tripPulse => true
  | .openPulse => r.origin != some .ledger
  | .faulty => r.feedback == .closed
  | _ => false

/-- The feeder's section is gen-fed (R69, R174). -/
def State.feederGenFed (s : State) (p : Pos) : Bool := (s.feederFeed p).gb

/-- Generator load: the demands of the fitted feeders of gen-fed sections that may be carrying load (R174). -/
def State.genLoad (s : State) : Nat :=
  ((feeders.filter fun p => s.fitted p && s.feederGenFed p && s.pos[p].carrying).map fun p => s.set.pos[p].demand).sum

/-- Headroom (R174). -/
def State.headroom (s : State) : Int := (s.capacity : Int) - (s.genLoad : Int)

/-- Check 11, with demand already issued at this event added to the load (R69, R75). -/
def State.capacityCheck (s : State) (p : Pos) (extra : Nat) : Option Result :=
  require (!(isFeeder p && s.feederGenFed p) || decide ((s.set.pos[p].demand : Int) + (extra : Int) ≤ s.headroom)) .capacity

/-! ### The parallel rule (R67, R68) -/

/-- Check 10. A paralleling close passes only where `paired` says the path may parallel and the pair is enabled. -/
def State.parallelRule (s : State) (p : Pos) (paired : Bool) : Option Result :=
  match sidesOf s.feeds p with
  | none => none
  | some (x, y) =>
    match s.judgeSide x, s.judgeSide y with
    | .unknown, _ => some .residual
    | _, .unknown => some .residual
    | .live, .live => require (paired && s.set.sidesEnabled x.sources y.sources) .parallel
    | .live, .dead => require (s.sideLow y) .residual
    | .dead, .live => require (s.sideLow x) .residual
    | .dead, .dead => none

/-- Check 10 at acceptance of a group: by the feed sets alone, with the positions the group opens counted as not connecting (R73). -/
def State.groupParallel (s : State) (less : PosMask) (p : Pos) : Option Result :=
  match sidesOf (feedsLess s.pos less) p with
  | none => none
  | some (x, y) => require (!(s.sideLiveBySource x && s.sideLiveBySource y)) .parallel

/-! ### The checks of Table 4.8 -/

/-- Checks 4 and 5. -/
def State.checkPosition (s : State) (p : Pos) : Option Result :=
  match s.pos[p].state with
  | .unfitted => some .unfitted
  | .faulty => some .faulty
  | .closePulse | .openPulse | .tripPulse => some .busy
  | .opened | .closed => none

/-- Check 6. -/
def State.checkLocks (s : State) (p : Pos) : Option Result := require (!s.pos[p].tripLocked && !s.pos[p].bf) .tripLocked

/-- Check 9 for a close. -/
def State.checkClosePermit (s : State) (p : Pos) : Option Result := require (s.closePermitted p) .interlock

/-- Check 9 for an open. -/
def State.checkOpenPermit (s : State) (p : Pos) : Option Result := require (s.openPermitted p) .interlock

/-- Checks 6 to 9 for a close. -/
def State.checkCloseFlags (s : State) (p : Pos) : Option Result :=
  firstRefusal [s.checkLocks p, require (!s.pos[p].shed) .shed, require (!isGenBreaker p) .useAdmit, s.checkClosePermit p]

/-- Checks 1 to 5 for a requester that does or does not pass check 3. -/
def State.checkRequester (s : State) (m : MasterIx) (p : Pos) (holder : Bool) : Option Result :=
  firstRefusal
    [require (s.modes.mode == .run) .hold, require (s.roleOf m != .view) .role, require holder .notHeld, s.checkPosition p]

end Sys2Proof.Machine
end

