-- ==== Sys2Proof/Machine/Sync.lean ====
section
/-! DEFINITION. The synchronizer (Section 9): wait list and grant, edges and measurements, correction, the trigger, STEPPED mode, and the
ends of attempts. -/

namespace Sys2Proof.Machine

/-! ### Lines and voltages of a target (Table 9.3) -/

/-- The running side's line of a position 0 to 10. -/
def runningLine (p : Pos) : Option ZLine :=
  match p.val with
  | 0 => some .zua
  | 1 => some .zub
  | 2 => some .zsb
  | 3 | 4 => some .zn
  | _ => (genOf p).map .zg

/-- The reference side's line of a position 0 to 10. -/
def referenceLine (p : Pos) : Option ZLine :=
  match p.val with
  | 0 | 2 | 3 => some .zsa
  | 1 | 4 => some .zsb
  | _ => if isGenBreaker p then some .zn else none

/-- The running side's voltage channel. -/
def runningChan (p : Pos) : Chan :=
  match p.val with
  | 0 => 23
  | 1 => 24
  | 2 => 26
  | 3 | 4 => 27
  | _ => match genOf p with
    | some g => genChan g
    | none => 27

/-- The reference side's voltage channel. -/
def referenceChan (p : Pos) : Chan :=
  match p.val with
  | 0 | 2 | 3 => 25
  | 1 | 4 => 26
  | _ => 27

/-- The running voltage less the reference voltage, when both channels were present in the last round (R153). Its sign is kept where it is
sent (log 38). -/
def State.voltDiff (s : State) (p : Pos) : Option Int :=
  match s.voltNow (runningChan p), s.voltNow (referenceChan p) with
  | some a, some b => some ((a : Int) - (b : Int))
  | _, _ => none

/-! ### Edits of the record -/

/-- The attempt changed. -/
def State.updAttempt (s : State) (f : Attempt → Attempt) : State := { s with sync := { s.sync with att := f s.sync.att } }

/-- The synchronizer's state changed. -/
def State.setSync (s : State) (st : SyncState) : State := { s with sync := { s.sync with state := st } }

/-- A GENERATOR entry's joining, grant or end handed to the ledger (R150, R163). -/
def State.tellLedger (s : State) (e : SyncEntry) (oc : Option SyncOutcome) : State :=
  if e.cls = .generator then s.hand (.syncLedger e.pos oc) else s

/-- An outcome handed to the requester's block (R163). A withdrawal of the transfer engine is not told back to it (R144; log 24). -/
def State.tellOutcome (s : State) (e : SyncEntry) (oc : SyncOutcome) (tellEngine : Bool) : State :=
  match e.cls with
  | .engine => if tellEngine then s.hand (.syncEngine e.pos oc) else s
  | .generator => s.hand (.syncLedger e.pos (some oc))
  | .master => s

/-- An end: the outcome list entry, the SYNC notice, and the outcome handed on (R163, R164). -/
def State.syncEnd (s : State) (e : SyncEntry) (oc : SyncOutcome) (d : Option SyncDetail) (tellEngine : Bool) : State :=
  let n := s.sync.counter + 1
  let s1 := { s with
    sync := { s.sync with counter := n, outcomes := pushBounded s.sync.outcomes ⟨n, e, oc, d, s.base.timeBase⟩ } }
  (s1.raise .sync).tellOutcome e oc tellEngine

/-- The attempt in progress ends; the grant that follows is made by `grantLoop` (R163). -/
def State.endAttempt (s : State) (oc : SyncOutcome) (d : Option SyncDetail) (tellEngine : Bool := true) : State :=
  match s.sync.target with
  | none => s
  | some e =>
    State.syncEnd { s with sync := { s.sync with state := .idle, target := none, att := {} } } e oc d tellEngine

/-! ### The trigger (R155) -/

/-- The authority of an entry's requester, against the permits standing (R151). -/
def State.syncAuthority (s : State) (e : SyncEntry) : Bool :=
  match e.cls, e.requester with
  | .engine, _ => s.auth.permits[e.pos] == some .engine
  | _, some m => s.holds m e.pos
  | _, none => false

/-- Checks 6, 9 and 10 of the trigger (R155). -/
def State.triggerCheck (s : State) (p : Pos) : Option Result :=
  firstRefusal [s.checkLocks p, s.checkClosePermit p, s.parallelRule p true]

/-- What a close trigger came to: the pulse started, or the attempt ended with an outcome. -/
inductive TriggerResult where
  | started
  | ended (oc : SyncOutcome)
  deriving DecidableEq, Repr

/-- The close trigger, without the grant that may follow (R155). -/
def State.triggerOnce (s : State) (e : SyncEntry) : TriggerResult × State :=
  if !s.syncAuthority e then (.ended .cancelled, s.endAttempt .cancelled none)
  else match s.triggerCheck e.pos with
    | some r => (.ended .interlock, s.endAttempt .interlock (some (.refusal r)))
    | none =>
      match s.closeRequest e.pos .sync none with
      | (.started, s1) =>
        (.started, (s1.setSync .closing).updAttempt fun a =>
          { a with attemptTimer := none, edgeRunning := none, edgeReference := none, periodTimer := none, outs := {}, live := false })
      | (.atOnce, s1) => (.ended .done, s1.endAttempt .done none)
      | (.refused r, s1) => (.ended .interlock, s1.endAttempt .interlock (some (.refusal r)))

/-! ### The grant (R151, R158) -/

/-- The generator bus holds no CLOSED generator breaker (R158). -/
def State.noGenClosed (s : State) : Bool := genBreakers.all fun p => s.pos[p].state != .closed

/-- A side qualifies as dead for a dead-bus close (R158). -/
def State.qualifiesDead (s : State) (d : Side) (genBus : Bool) : Bool :=
  s.judgeSide d == .dead && s.sideLow d && (!genBus || s.noGenClosed)

/-- The running and reference sides of a position, from the sides of Table 4.9, and whether each is the generator bus (Table 9.3). -/
def State.syncSides (s : State) (p : Pos) : Option ((Side × Bool) × (Side × Bool)) :=
  (sidesOf s.feeds p).map fun d =>
    if p = 2 then ((d.2, false), (d.1, false))
    else if isGenBreaker p then ((d.1, false), (d.2, true))
    else if p = 3 ∨ p = 4 then ((d.1, true), (d.2, false))
    else ((d.1, false), (d.2, false))

/-- The close is made without a window at the grant (R158). -/
def State.deadBus (s : State) (p : Pos) : Bool :=
  match s.syncSides p with
  | none => false
  | some (run, ref) =>
    s.judgeSide run.1 != .unknown && s.judgeSide ref.1 != .unknown
      && ((s.qualifiesDead ref.1 ref.2 && (!isGenBreaker p || s.judgeSide run.1 == .live))
        || (decide (p.val ≤ 4) && s.qualifiesDead run.1 run.2))

/-- The attempt of a fresh target: the attempt timer and both edge supervision timers run (R151). -/
def State.freshAttempt (s : State) : Attempt :=
  { attemptTimer := some (s.set.attemptTimeout * 1000), edgeRunning := some 100, edgeReference := some 100 }

/-- One entry becomes the target: authority, timers, and the dead-bus judgement (R151). -/
def State.grantEntry (s : State) (e : SyncEntry) : State :=
  let s1 := State.tellLedger (State.raise
    { s with sync := { s.sync with waits := s.sync.waits.filter (· ≠ e), target := some e, state := .measuring, att := {} } } .sync)
    e none
  if !s1.syncAuthority e then s1.endAttempt .cancelled none
  else
    let s2 := s1.updAttempt fun _ => s1.freshAttempt
    if s2.deadBus e.pos then (s2.triggerOnce e).2 else s2

/-- The entry to be granted: the ENGINE entry, or the head (R151). -/
def nextEntry (ws : List SyncEntry) : Option SyncEntry := (ws.find? fun e => e.cls == .engine).or ws.head?

/-- Grants made while the synchronizer is IDLE with a non-empty list; the number bounds them by the list's length (R151). -/
def State.grantLoop : Nat → State → State
  | 0, s => s
  | n + 1, s =>
    if s.sync.state = .idle then
      match nextEntry s.sync.waits with
      | none => s
      | some e => State.grantLoop n (s.grantEntry e)
    else s

/-- The grants that follow an event leaving the synchronizer IDLE (R151, R163). No grant is made in HOLD (R162). -/
def State.regrant (s : State) : State := if s.modes.mode = .run then s.grantLoop s.sync.waits.length else s

/-- The attempt ends and the next entry is granted at the same event (R163). -/
def State.finishAttempt (s : State) (oc : SyncOutcome) (d : Option SyncDetail) : State := (s.endAttempt oc d).regrant

/-- The trigger with the grant that may follow it. -/
def State.trigger (s : State) : TriggerResult × State :=
  match s.sync.target with
  | none => (.ended .cancelled, s)
  | some e =>
    let r := s.triggerOnce e
    (r.1, r.2.regrant)

/-- An entry is offered (R150): none when it joins, and otherwise the refusal. -/
def State.syncJoin (s : State) (e : SyncEntry) : Option Result × State :=
  if s.modes.mode ≠ .run then (some .hold, s)
  else if (s.sync.waits.any fun w => w.pos == e.pos) || (s.sync.target.map (·.pos)) == some e.pos then (some .busy, s)
  else if 8 ≤ s.sync.waits.length then (some .syncFull, s)
  else
    let s1 := State.raise { s with sync := { s.sync with waits := s.sync.waits ++ [e] } } .sync
    (none, (s1.tellLedger e none).regrant)

/-! ### Leaving without a close (R161, R162) -/

/-- A waiting entry leaves the list with outcome CANCELLED (R163). -/
def State.dropWait (s : State) (e : SyncEntry) (tellEngine : Bool) : State :=
  State.syncEnd { s with sync := { s.sync with waits := s.sync.waits.filter (· ≠ e) } } e .cancelled none tellEngine

/-- The waiting entry of a position. -/
def State.waitingFor (s : State) (p : Pos) : Option SyncEntry := s.sync.waits.find? fun e => e.pos == p

/-- A position taken off the synchronizer without a close (R161, R162). -/
def State.withdraw (s : State) (p : Pos) (tellEngine : Bool := true) : State :=
  match s.waitingFor p with
  | some e => s.dropWait e tellEngine
  | none =>
    match s.sync.target with
    | none => s
    | some e =>
      if e.pos = p ∧ s.sync.state ≠ .closing then (s.endAttempt .cancelled none tellEngine).regrant else s

/-- Entry to HOLD: every entry leaves, and an attempt not CLOSING ends CANCELLED (R162). The rule gives no order: that the waiting entries
are ended head first and the target last, which numbers their outcomes, is the model's choice (log 43). -/
def State.syncHold (s : State) : State :=
  let s1 := s.sync.waits.foldl (fun s e => s.dropWait e true) s
  if s1.sync.state = .closing ∨ s1.sync.state = .idle then s1 else s1.endAttempt .cancelled none

/-! ### Edges and measurements (R152, R153) -/

/-- A span of the clock in units of 10 us: the time base wraps at 2^32 ms. -/
def fineSpan : Nat := 4294967296 * 100

/-- The time of an edge: the time base and the fraction of the millisecond, in units of 10 us (log 12). -/
def State.edgeTime (s : State) (sub : Nat) : Nat := s.base.timeBase.toNat * 100 + sub

/-- The time from one edge to a later one. -/
def edgeGap (later earlier : Nat) : Nat := (later + fineSpan - earlier) % fineSpan

/-- A number of hundredths of a degree wrapped to -18000 to 17999. -/
def wrapAngle (x : Int) : Int := (x + 18000) % 36000 - 18000

/-- The phase: 360 degrees times the period less the elapsed time, divided by the period, taken modulo 360 (R152). -/
def phaseOf (period elapsed : Nat) : Int := ((36000 * ((period : Int) - (elapsed : Int))) % (36000 * (period : Int))) / (period : Int)

/-- A measurement from the phase, the previous measurement, the reference period, the close time and the voltage difference. Each
quotient is rounded toward zero (R152). -/
def measure (phi : Int) (prev : Option Measurement) (period closeTime : Nat) (vdiff : Option Int) : Measurement :=
  let dphi := prev.map fun m => wrapAngle (phi - m.phi)
  { phi := phi
    theta := wrapAngle phi
    dphi := dphi
    slip := dphi.map fun d => (d * 10000000).tdiv (36000 * (period : Int))
    advance := dphi.map fun d => (d * (closeTime : Int) * 100).tdiv (period : Int)
    vdiff := vdiff }

/-- The window condition (R153). -/
def Settings.windowHolds (t : Settings) (m : Measurement) : Bool :=
  match m.slip, m.advance, m.vdiff with
  | some sl, some ad, some vd =>
    decide (sl.natAbs ≤ t.slipLimit) && decide ((m.theta + ad).natAbs ≤ t.windowAngle * 100)
      && decide (vd.natAbs ≤ t.voltLimit)
  | _, _, _ => false

/-! ### Correction (R156) -/

/-- The speed error in hundredths of a hertz; 0 without a slip (R156). -/
def Settings.speedError (t : Settings) (m : Option Measurement) : Int :=
  match m.bind Measurement.slip with
  | some sl => ((t.slipLimit / 2 : Nat) : Int) - sl
  | none => 0

/-- The voltage error in thousandths, taken as 0 within half the voltage limit (R156). -/
def Settings.voltError (t : Settings) (diff : Option Int) : Int :=
  match diff with
  | some d => if d.natAbs * 2 ≤ t.voltLimit then 0 else -d
  | none => 0

/-- The on-timer of an output called for by an error of its sign: the error times the gain in steps of 4 ms, at most 250 steps. -/
def onTime (called : Bool) (err : Int) (gain : Nat) : Timer :=
  if called && decide (err ≠ 0) then some (min (err.natAbs * gain) 250 * 4) else none

/-- The outputs at the beginning of a correction period. -/
def Settings.periodOuts (t : Settings) (m : Option Measurement) (diff : Option Int) : OnTimers :=
  let e := t.speedError m
  let v := t.voltError diff
  { speedRaise := onTime (decide (0 < e)) e t.speedGain
    speedLower := onTime (decide (e < 0)) e t.speedGain
    voltRaise := onTime (decide (0 < v)) v t.voltGain
    voltLower := onTime (decide (v < 0)) v t.voltGain }

/-- A correction period begins, with a target among QG1 to QG6 (R156). -/
def State.beginPeriod (s : State) (p : Pos) : State :=
  if isGenBreaker p then
    s.updAttempt fun a => { a with periodTimer := some 1000, outs := s.set.periodOuts a.meas (s.voltDiff p) }
  else s

/-- CORRECTING is entered (R154, R156). -/
def State.enterCorrecting (s : State) (p : Pos) : State :=
  ((s.setSync .correcting).updAttempt fun a => { a with confirm := 0 }).beginPeriod p

/-- IN_WINDOW is entered with a confirmation count of 1; the outputs are off (R154, R156). -/
def State.enterWindow (s : State) : State :=
  (s.setSync .inWindow).updAttempt fun a => { a with confirm := 1, periodTimer := none, outs := {} }

/-! ### Judging a measurement (R154, R157) -/

/-- The window is confirmed: IN_WINDOW with a confirmation count of 3 triggers the close (R154). -/
def State.windowConfirmed (s : State) : State :=
  if s.sync.state = .inWindow ∧ 3 ≤ s.sync.att.confirm then s.trigger.2 else s

/-- The end of MEASURING at the fourth measurement (R154). -/
def State.measured (s : State) (e : SyncEntry) (w : Bool) : State :=
  if s.sync.att.measCount ≠ 4 then s
  else match e.mode with
    | .auto => if w then s.enterWindow else s.enterCorrecting e.pos
    | .stepped => (s.setSync .waitWindow).updAttempt fun a => { a with seen := w }

/-- What a measurement does in the present state, the window condition holding or not (R154, R157). -/
def State.judgeMeasurement (s : State) (e : SyncEntry) (w : Bool) : State :=
  match s.sync.state with
  | .measuring => s.measured e w
  | .correcting => if w then s.enterWindow else s
  | .inWindow =>
    if w then (s.updAttempt fun a => { a with confirm := a.confirm + 1 }).windowConfirmed else s.enterCorrecting e.pos
  | .waitWindow => if w then s.updAttempt fun a => { a with seen := true } else s
  | .latched => if w then (s.setSync .waitWindow).updAttempt fun a => { a with seen := true } else s
  | .idle | .closing => s

/-- A running edge: its supervision timer restarts, and with the reference period known it makes a measurement (R152). The measurement keeps
the voltage difference it was judged by, for SYNC and the capture to carry (log 38). -/
def State.runningEdge (s : State) (e : SyncEntry) (now : Nat) : State :=
  let s1 := s.updAttempt fun a => { a with edgeRunning := some 100 }
  match s.sync.att.period, s.sync.att.lastRef with
  | some period, some last =>
    if period = 0 then s1
    else
      let m := measure (phaseOf period (edgeGap now last)) s.sync.att.meas period s.set.pos[e.pos].closeTime (s.voltDiff e.pos)
      let w := s.set.windowHolds m
      (s1.updAttempt fun a => { a with measCount := a.measCount + 1, meas := some m, live := w }).judgeMeasurement e w
  | _, _ => s1

/-- A reference edge: the period is taken and the supervision timer restarts (R152). -/
def State.referenceEdge (s : State) (now : Nat) : State :=
  s.updAttempt fun a =>
    { a with period := a.lastRef.map (edgeGap now), lastRef := some now, edgeReference := some 100 }

/-- A rising zero crossing (R152). -/
def State.zeroCrossing (s : State) (l : ZLine) (sub : Nat) : State :=
  match s.sync.target with
  | none => s
  | some e =>
    if s.sync.state = .closing ∨ s.base.phase ≠ .running then s
    else if referenceLine e.pos = some l then s.referenceEdge (s.edgeTime sub)
    else if runningLine e.pos = some l then s.runningEdge e (s.edgeTime sub)
    else s

/-! ### Timers -/

/-- The attempt timer runs out, in any state but IDLE and CLOSING (R160). -/
def State.attemptExpiry (s : State) : State :=
  if s.sync.att.attemptTimer.due && s.sync.state != .idle && s.sync.state != .closing then s.finishAttempt .timeout none else s

/-- The edge supervision timer of a line. -/
def Attempt.edgeTimer (a : Attempt) : EdgeSide → Timer
  | .running => a.edgeRunning
  | .reference => a.edgeReference

/-- An edge supervision timer runs out (R152). -/
def State.edgeExpiry (s : State) (side : EdgeSide) : State :=
  if (s.sync.att.edgeTimer side).due && s.sync.state != .idle && s.sync.state != .closing then s.finishAttempt .lostReference none
  else s

/-- The period timer runs out and a further correction period begins (R156). -/
def State.periodExpiry (s : State) : State :=
  match s.sync.target with
  | none => s
  | some e => if s.sync.att.periodTimer.due && s.sync.state == .correcting then s.beginPeriod e.pos else s

/-- The on-timer of an output. -/
def OnTimers.get (t : OnTimers) : CorrOut → Timer
  | .speedRaise => t.speedRaise
  | .speedLower => t.speedLower
  | .voltRaise => t.voltRaise
  | .voltLower => t.voltLower

/-- The on-timer of an output stopped. -/
def OnTimers.stop (t : OnTimers) : CorrOut → OnTimers
  | .speedRaise => { t with speedRaise := none }
  | .speedLower => { t with speedLower := none }
  | .voltRaise => { t with voltRaise := none }
  | .voltLower => { t with voltLower := none }

/-- The present correction period is over: the period timer has run out in CORRECTING, and the next period is about to begin (R156). -/
def State.periodOver (s : State) : Bool := s.sync.att.periodTimer.due && s.sync.state == .correcting

/-- An on-timer runs out: its output becomes inactive. An on-time of 250 steps runs out with the period itself, and its output stays active
until the next period begins (R156). -/
def State.onExpiry (s : State) (o : CorrOut) : State :=
  if (s.sync.att.outs.get o).due && !s.periodOver then s.updAttempt fun a => { a with outs := a.outs.stop o } else s

/-- A pulse outcome reported to origin SYNC (R155). -/
def State.syncOutcome (s : State) (p : Pos) (oc : PulseOutcome) : State :=
  if (s.sync.target.map (·.pos)) = some p ∧ s.sync.state = .closing then
    s.finishAttempt (if oc = .closedDone then .done else .closeFail) (some (.pulse oc))
  else s

/-! ### Requests (R157, R161) -/

/-- The capture as a reply carries it: theta, delta phi, slip frequency, advance angle, voltage difference, live window indication and
window-seen flag (R157). The voltage difference is that of the latest measurement, signed (log 38). No rule bounds the slip or the advance
angle, which can pass 327.67 degrees (R152): they take two bytes and three, which hold the angle for every period from 0.6 ms on
(log 16). -/
def Capture.bytes (c : Capture) : List Byte :=
  signedBytes 2 (c.meas.map (·.theta)) ++ signedBytes 2 (c.meas.bind (·.dphi)) ++ signedBytes 2 (c.meas.bind (·.slip))
    ++ signedBytes 3 (c.meas.bind (·.advance)) ++ signedBytes 2 (c.meas.bind (·.vdiff)) ++ flagByte c.live ++ flagByte c.seen

/-- The target a SYNC_STEP may act on, or its refusal (R157). -/
def State.stepTarget (s : State) (m : MasterIx) (pos : Nat) : Except Result SyncEntry :=
  match syncPosOf pos with
  | none => .error .range
  | some p =>
    match s.sync.target with
    | none => .error .notFound
    | some e =>
      if e.pos ≠ p ∨ e.mode ≠ .stepped then .error .notFound
      else if e.requester ≠ some m then .error .role
      else if s.sync.state = .measuring ∨ s.sync.state = .closing then .error .busy
      else .ok e

/-- SYNC_STEP LATCH (R157). -/
def State.syncLatch (s : State) (m : MasterIx) (pos : Nat) : Answer × State :=
  match s.stepTarget m pos with
  | .error r => s.answer r
  | .ok _ =>
    let c : Capture := ⟨s.sync.att.meas, s.sync.att.live, s.sync.att.seen⟩
    ({ code := .done, data := c.bytes }, (s.setSync .latched).updAttempt fun a => { a with capture := some c, seen := false })

/-- The reply to a trigger of SYNC_STEP CLOSE (R157). -/
def TriggerResult.reply : TriggerResult → Result
  | .started => .accepted
  | .ended .done => .done
  | .ended .cancelled => .cancelled
  | .ended _ => .interlock

/-- SYNC_STEP CLOSE (R157). -/
def State.syncClose (s : State) (m : MasterIx) (pos : Nat) : Answer × State :=
  match s.stepTarget m pos with
  | .error r => s.answer r
  | .ok _ => if s.sync.att.live then let r := s.trigger; ({ code := r.1.reply }, r.2) else s.answer .outOfWindow

/-- The master may cancel an entry: its requester, a STATION role or MAINT, and never an ENGINE entry (R161). -/
def State.mayCancel (s : State) (m : MasterIx) (e : SyncEntry) : Bool :=
  e.cls != .engine && (e.requester == some m || (s.roleOf m).stationOrMaint)

/-- SYNC_CANCEL (R161). -/
def State.syncCancel (s : State) (m : MasterIx) (pos : Nat) : Answer × State :=
  match syncPosOf pos with
  | none => s.answer .range
  | some p =>
    match (s.waitingFor p).or (s.sync.target.filter fun e => e.pos == p) with
    | none => s.answer .notFound
    | some e =>
      if !s.mayCancel m e then s.answer .role
      else if (s.waitingFor p).isNone && s.sync.state == .closing then s.answer .busy
      else ({ code := .done }, s.withdraw p)

end Sys2Proof.Machine
end

