-- ==== Sys2Proof/Machine/Ledger.lean ====
section
/-! DEFINITION. The generator and load ledger (Section 10): generator states and failures, lockout and readmission, shedding and
restoration. -/

namespace Sys2Proof.Machine

/-! ### Generator records -/

/-- A generator held LOCKED_OUT or READMIT (R166). -/
def GenState.held : GenState → Bool
  | .lockedOut | .readmit => true
  | _ => false

/-- The state of a generator that is not held: the first row of Table 10.2 that holds (R166). -/
def State.freeGenState (s : State) (g : GenIx) : GenState :=
  if s.pos[genPos g].state = .closed then .online
  else if (s.sync.target.map (·.pos)) = some (genPos g) then .syncing
  else if (s.waitingFor (genPos g)).isSome then .waiting
  else match s.voltNow (genChan g) with
    | some v => if 850 ≤ v then .running else .stopped
    | none => .stopped

/-- One generator record replaced. -/
def State.setGen (s : State) (g : GenIx) (r : GenRec) : State := { s with led := { s.led with gens := s.led.gens.set g r } }

/-- The state of a generator judged; a change raises GENERATOR (R167). -/
def State.judgeGen (s : State) (g : GenIx) : State :=
  let r := s.led.gens[g]
  if r.state.held ∨ s.freeGenState g = r.state then s
  else (s.setGen g { r with state := s.freeGenState g }).raise .generator

/-- The ledger keeps the breaker of a barred generator open (R171). -/
def State.keepOpen (s : State) (g : GenIx) : State :=
  let r := s.led.gens[g]
  if s.pos[genPos g].state ≠ .closed then
    if r.openBlocked then s.setGen g { r with openBlocked := false } else s
  else if r.state.held then
    match s.openRequest (genPos g) .ledger none with
    | (.refused _, _) => if r.openBlocked then s else (s.setGen g { r with openBlocked := true }).raise .generator
    | (_, s1) => s1
  else s

/-! ### Failures and lockout (R170, R171) -/

/-- A generator becomes LOCKED_OUT: its breaker is withdrawn from the synchronizer, or its closing attempt marked, and kept open. -/
def State.lockOut (s : State) (g : GenIx) : State :=
  let closing := (s.sync.target.map (·.pos)) = some (genPos g) ∧ s.sync.state = .closing
  let r := s.led.gens[g]
  let s1 := (s.setGen g { r with state := .lockedOut, ignoreOutcome := decide closing }).raise .generator
  (if closing then s1 else s1.withdraw (genPos g)).keepOpen g

/-- The lockout of a generator whose count is 16 or more and which is neither LOCKED_OUT nor READMIT (R170). -/
def State.checkLockout (s : State) (g : GenIx) : State :=
  let r := s.led.gens[g]
  if 16 ≤ r.failures ∧ r.state.held = false then s.lockOut g else s

/-- The failure count changed to a value, with the warning that follows from it (R170). A failure that finds the count at 255 still gives
the last failure event, with GENERATOR when that changes (log 39). -/
def State.setFailures (s : State) (g : GenIx) (n : Nat) (ev : Option GenFailure) : State :=
  let r := s.led.gens[g]
  let r1 := { r with failures := n, warning := decide (8 ≤ n), lastFailure := ev }
  (if r1 = r then s else (s.setGen g r1).raise .generator).checkLockout g

/-- A failure charged against a generator; the count saturates at 255 (Table 10.6). -/
def State.charge (s : State) (g : GenIx) (n : Nat) (ev : GenFailure) : State :=
  s.setFailures g (min 255 (s.led.gens[g].failures + n)) (some ev)

/-- A synchronizer outcome of a GENERATOR entry charged (Table 10.6). -/
def State.chargeOutcome (s : State) (g : GenIx) : SyncOutcome → State
  | .timeout | .lostReference | .interlock => s.charge g 2 .syncFail
  | .closeFail => s.charge g 2 .closeFail
  | .done => s.setFailures g (s.led.gens[g].failures - 1) s.led.gens[g].lastFailure
  | .cancelled => s

/-- The ledger takes a joining, grant or end of a GENERATOR entry (R167, R170). -/
def State.ledgerSync (s : State) (p : Pos) (oc : Option SyncOutcome) : State :=
  match genOf p with
  | none => s
  | some g =>
    let s1 := match oc with
      | none => s
      | some o =>
        if s.led.gens[g].ignoreOutcome then s.setGen g { s.led.gens[g] with ignoreOutcome := false } else s.chargeOutcome g o
    s1.judgeGen g

/-- The ledger takes a reverse-power trip of a generator breaker (Table 10.6). -/
def State.ledgerTrip (s : State) (p : Pos) : State :=
  match genOf p with
  | none => s
  | some g => s.charge g 4 .reversePower

/-! ### Readmission (R173) -/

/-- A generator leaves READMIT; its state is judged afresh (R173). -/
def State.readmitted (s : State) (g : GenIx) : State :=
  (s.setGen g { s.led.gens[g] with state := s.freeGenState g, readmit := 0 }).raise .generator

/-- The readmit count has reached 200 (R173). -/
def State.readmitComplete (s : State) (g : GenIx) : State :=
  if s.led.gens[g].state = .readmit ∧ 200 ≤ s.led.gens[g].readmit then s.readmitted g else s

/-- The round is healthy for the generator (R173). -/
def State.genHealthy (s : State) (g : GenIx) : Bool :=
  match s.entry (genChan g) with
  | some v => s.set.inBand v
  | none => false

/-- One generator at a round boundary: readmission or judgement, then keeping open (R167, R171, R173). -/
def State.genBoundary (s : State) (g : GenIx) : State :=
  let r := s.led.gens[g]
  let s1 :=
    if r.state = .readmit then
      (s.setGen g { r with readmit := if s.genHealthy g then r.readmit + 1 else 0 }).readmitComplete g
    else s.judgeGen g
  s1.keepOpen g

/-! ### The stack -/

/-- The ledger record changed. -/
def State.updLed (s : State) (f : Ledger → Ledger) : State := { s with led := f s.led }

/-- A feeder leaves the stack from where it stands and its SHED flag is cleared; the pause ends (R176, R179, R180). -/
def State.unstack (s : State) (p : Pos) : State :=
  (s.updLed fun l => { l with stack := l.stack.filter (· ≠ p), paused := false }).updPos p fun r => { r with shed := false }

/-- A feeder that stands in the stack leaves it, with the LEDGER notice (R176, R180). -/
def State.unstackNoted (s : State) (p : Pos) : State := if p ∈ s.led.stack then (s.unstack p).raise .ledger else s

/-- UNSHED handed to the ledger (R180). -/
def State.unshedFeeder (s : State) (p : Pos) : State := s.unstackNoted p

/-- A ledger event recorded, with the LEDGER notice (R181). -/
def State.ledgerEvent (s : State) (e : LedgerEvent) : State := (s.updLed fun l => { l with lastEvent := some e }).raise .ledger

/-- A feeder pushed on the stack; its SHED flag is set (R176). -/
def State.pushShed (s : State) (p : Pos) : State :=
  ((s.updLed fun l => { l with stack := p :: l.stack.filter (· ≠ p), paused := false }).updPos p fun r =>
    { r with shed := true }).raise .ledger

/-- A pulse outcome reported to origin LEDGER (R171, R176, R179). -/
def State.ledgerOutcome (s : State) (p : Pos) (oc : PulseOutcome) (closing : Bool) : State :=
  if !isFeeder p then s
  else match oc with
    | .openedDone => s.pushShed p
    | .openFail => s.updLed fun l => { l with shedFailed := l.shedFailed.filter (· ≠ p) ++ [p] }
    | .closeFail => s.ledgerEvent (.restoreFailed p)
    | .takenByTrip => if closing then s.ledgerEvent (.restoreFailed p) else s
    | .closedDone | .bfExpired => s

/-- The ledger takes a change of state of a generator breaker or a feeder (R167, R171, R176). -/
def State.ledgerPos (s : State) (p : Pos) (now : PosState) : State :=
  match genOf p with
  | some g => (s.judgeGen g).keepOpen g
  | none =>
    match now with
    | .closed => s.unstackNoted p
    | .opened => s.updLed fun l => { l with shedFailed := l.shedFailed.filter (· ≠ p) }
    | _ => s

/-! ### Shedding (R175) -/

/-- The feeder of a rank of the ladder. -/
def Settings.feederOfRank (t : Settings) (r : Nat) : Option Pos := feeders.find? fun p => t.ladder.toList[p.val - 11]? == some r

/-- The feeders in the order of the ladder. -/
def Settings.ladderOrder (t : Settings) : List Pos := (List.range 12).filterMap t.feederOfRank

/-- The feeder holds a MAINTENANCE permit. -/
def State.underMaintenance (s : State) (p : Pos) : Bool :=
  match s.auth.permits[p] with
  | some (.maintenance _) => true
  | _ => false

/-- The feeder may be selected for shedding (R175). -/
def State.sheddable (s : State) (p : Pos) : Bool :=
  s.fitted p && s.pos[p].state == .closed && s.feederGenFed p && decide (0 < s.set.pos[p].demand) && !s.underMaintenance p
    && !s.led.shedFailed.contains p

/-- The walk of the ladder: the feeders selected, and whether the rest fits (R175). -/
def shedWalk (demand : Pos → Nat) (capacity : Nat) : List Pos → Nat → List Pos × Bool
  | [], _ => ([], false)
  | p :: rest, load =>
    let left := load - demand p
    if left ≤ capacity then ([p], true)
    else
      let r := shedWalk demand capacity rest left
      (p :: r.1, r.2)

/-- A shed open issued (R175). -/
def State.shedOpen (s : State) (p : Pos) : State := (s.openRequest p .ledger none).2

/-- The overload is not resolved by what could be selected (R175). -/
def State.overloadUnresolved (s : State) : State :=
  if s.led.unresolved then s else (s.updLed fun l => { l with unresolved := true }).ledgerEvent .overloadUnresolved

/-- An overload shed: the opens of the selected feeders in ladder order (R175). -/
def State.shedOverload (s : State) : State :=
  let w := shedWalk (fun p => s.set.pos[p].demand) s.capacity (s.set.ladderOrder.filter s.sheddable) s.genLoad
  let s1 := if w.1 = [] then s else (w.1.foldl State.shedOpen s).raise .ledger
  if w.2 then s1 else s1.overloadUnresolved

/-! ### Restoration (R177 to R179) -/

/-- The first check of R179 that fails, by its number. -/
def State.restoreBlock (s : State) (p : Pos) : Option Nat :=
  if (match s.auth.permits[p] with
      | some (.operate _ _) => true
      | some (.maintenance _) => true
      | _ => false) then some 1
  else if (s.checkPosition p).isSome then some 2
  else if (s.checkLocks p).isSome then some 3
  else if (s.checkClosePermit p).isSome then some 4
  else none

/-- A chosen feeder restored, or restoration paused (R179). -/
def State.restore (s : State) (p : Pos) : State :=
  match s.restoreBlock p with
  | some k => (s.updLed fun l => { l with paused := true, fitCount := 0, fitDue := false }).ledgerEvent (.restoreBlocked p k)
  | none =>
    let s1 := ((s.unstack p).closeRequest p .ledger none).2
    (s1.updLed fun l => { l with spacing := some 2000, fitCount := 0, fitDue := false }).ledgerEvent (.restoreIssued p)

/-- The topmost fitted feeder of the stack whose section is gen-fed (R177). -/
def State.genCandidate (s : State) : Option Pos := s.led.stack.find? fun p => s.fitted p && s.feederGenFed p

/-- The topmost fitted feeder of the stack whose section is fed, and not by the generators (R178). -/
def State.utilCandidate (s : State) : Option Pos :=
  s.led.stack.find? fun p => s.fitted p && !(s.feederFeed p).isEmpty && !s.feederGenFed p

/-- Restoration of a feeder whose section has left generator feed (R178). -/
def State.restoreUtility (s : State) : State :=
  match s.utilCandidate with
  | some p => if s.led.paused = false ∧ s.led.spacing = none then s.restore p else s
  | none => s

/-- A shed open is in flight. -/
def State.shedInFlight (s : State) : Bool := feeders.any fun p => s.pos[p].state == .openPulse && s.pos[p].origin == some .ledger

/-- The candidate fits: the headroom is at least its demand times 11 divided by 10 (R177). -/
def State.candidateFits (s : State) (p : Pos) : Bool := decide (((s.set.pos[p].demand * 11 / 10 : Nat) : Int) ≤ s.headroom)

/-- The fit count at a boundary (R177). A candidate where the boundary before had none is a change of candidate (log 40). -/
def State.nextFitCount (s : State) (h : Int) : Nat :=
  match s.genCandidate with
  | none => 0
  | some p =>
    if 0 ≤ h ∧ s.led.candidate = some p ∧ s.shedInFlight = false ∧ s.led.paused = false ∧ s.candidateFits p = true then
      min 6000 (s.led.fitCount + 1)
    else 0

/-- The restore of R177 when the boundary has found the fit count at the restore delay and the spacing timer is idle. -/
def State.fitRestore (s : State) : State :=
  match s.led.candidate with
  | none => s
  | some p =>
    if s.led.fitDue = true ∧ s.modes.mode = .run ∧ 0 ≤ s.headroom ∧ s.led.paused = false ∧ s.led.spacing = none
        ∧ s.genCandidate = some p then s.restore p
    else s

/-- The fit count judged against the restore delay, and the candidate kept for the next boundary (R177) and for the reads
before it (log 49). -/
def State.judgeFit (s : State) (h : Int) : State :=
  s.updLed fun l =>
    { l with
      fitCount := s.nextFitCount h, candidate := s.genCandidate
      fitDue := decide (0 ≤ h ∧ s.set.restoreDelay * 100 ≤ s.nextFitCount h) }

/-- The boundary is over for the fit count (R177). -/
def State.endFit (s : State) : State := s.updLed fun l => { l with fitDue := false }

/-- The ledger's evaluation at a boundary with the mode RUN: shedding, then restoration (R175, R177, R178; log 19). -/
def State.evaluateLoad (s : State) : State :=
  let h := s.headroom
  let s1 := if h < 0 then s.shedOverload else s.updLed fun l => { l with unresolved := false }
  (s1.restoreUtility.judgeFit h).fitRestore.endFit

/-- The ledger takes a delivered round (R167, R171, R173, R175). -/
def State.ledgerRound (s : State) : State :=
  let s1 := allGens.foldl State.genBoundary s
  if s1.modes.mode = .run then s1.evaluateLoad else s1.updLed fun l => { l with fitCount := 0 }

/-- The spacing timer runs out (R177). -/
def State.spacingExpiry (s : State) : State :=
  if s.led.spacing.due then s.updLed fun l => { l with spacing := none } else s

/-- The ledger takes a feed-set change (R20). Section 10 gives it nothing to do there: capacity, load, headroom and the candidates are
computed from the feed sets standing at the events that use them (R174, R177, R178). -/
def State.ledgerFeeds (s : State) (_ : FeedChange) : State := s

/-- A layer change handed to the ledger ends a pause (R59, R179). -/
def State.ledgerLayer (s : State) : State := s.updLed fun l => { l with paused := false }

/-! ### Requests -/

/-- The code of a generator state: its place in Table 10.1 (log 16). -/
def GenState.code : GenState → Nat
  | .stopped => 0
  | .running => 1
  | .waiting => 2
  | .syncing => 3
  | .online => 4
  | .lockedOut => 5
  | .readmit => 6

/-- The requester holds OPERATE on the position. -/
def State.holdsOperate (s : State) (m : MasterIx) (p : Pos) : Bool :=
  match s.auth.permits[p] with
  | some (.operate h _) => h == m
  | _ => false

/-- Fitted and not FAULTY (check 4). -/
def State.checkFitted (s : State) (p : Pos) : Option Result :=
  match s.pos[p].state with
  | .unfitted => some .unfitted
  | .faulty => some .faulty
  | _ => none

/-- Checks 1 to 4 of Table 10.4. -/
def State.genRequester (s : State) (m : MasterIx) (g : GenIx) : Option Result :=
  firstRefusal
    [require (s.modes.mode == .run) .hold, require (s.roleOf m == .gen g) .role, require (s.holdsOperate m (genPos g)) .notHeld,
      s.checkFitted (genPos g)]

/-- Checks 7 to 9 of Table 10.4. -/
def State.admitChecks (s : State) (p : Pos) : Option Result :=
  firstRefusal [require (!s.pos[p].state.inFlight) .busy, s.checkLocks p, s.checkClosePermit p]

/-- ADMIT after the master match (R168). -/
def State.admitGen (s : State) (m : MasterIx) (gen mode : Nat) : Answer × State :=
  match genIxOf gen, syncModeOf mode with
  | some g, some md =>
    match s.genRequester m g with
    | some r => s.answer r
    | none =>
      if s.led.gens[g].state.held then s.answer .interlock (byte1 s.led.gens[g].state.code)
      else if s.pos[genPos g].state = .closed then ({ code := .done }, s.renew m (genPos g))
      else match s.admitChecks (genPos g) with
        | some r => s.answer r
        | none => match s.syncJoin ⟨genPos g, .generator, some m, md⟩ with
          | (some r, _) => s.answer r
          | (none, s1) => ({ code := .accepted }, s1.renew m (genPos g))
  | _, _ => s.answer .range

/-- The position stands with the synchronizer, waiting or as a target not CLOSING. -/
def State.withSync (s : State) (p : Pos) : Bool :=
  (s.waitingFor p).isSome || ((s.sync.target.map (·.pos)) == some p && s.sync.state != .closing)

/-- WITHDRAW after its checks (R169). For a breaker with the synchronizer that is CLOSED or has a pulse in flight, that the case of the
synchronizer comes first is the model's choice (log 48). -/
def State.withdrawAct (s : State) (m : MasterIx) (p : Pos) : Answer × State :=
  if s.withSync p then ({ code := .done }, (s.withdraw p).renew m p)
  else if s.pos[p].state.inFlight || (s.sync.target.map (·.pos)) == some p then s.answer .busy
  else if s.pos[p].state = .closed then
    if !s.openPermitted p then s.answer .interlock
    else match s.openRequest p .master (some m) with
      | (.refused r, _) => s.answer r
      | (_, s1) => ({ code := .accepted }, s1.renew m p)
  else ({ code := .done }, s.renew m p)

/-- WITHDRAW after the master match (R169). -/
def State.withdrawGen (s : State) (m : MasterIx) (gen : Nat) : Answer × State :=
  match genIxOf gen with
  | none => s.answer .range
  | some g => match s.genRequester m g with
    | some r => s.answer r
    | none => s.withdrawAct m (genPos g)

/-- The record of a generator after CLEAR_LOCKOUT (R172). -/
def GenRec.clearedLockout (r : GenRec) : GenRec :=
  { r with
    failures := 0, warning := false, lastFailure := none
    state := if r.state = .lockedOut then .readmit else r.state
    readmit := if r.state = .lockedOut then 0 else r.readmit }

/-- CLEAR_LOCKOUT after the master match (R172). -/
def State.clearLockout (s : State) (m : MasterIx) (gen : Nat) : Answer × State :=
  if !(s.roleOf m).stationOrMaint then s.answer .role
  else match genIxOf gen with
    | none => s.answer .range
    | some g =>
      let r := s.led.gens[g].clearedLockout
      ({ code := .done }, if r = s.led.gens[g] then s else (s.setGen g r).raise .generator)

end Sys2Proof.Machine
end

