-- ==== Sys2Proof/Machine/Engine.lean ====
section
/-! DEFINITION. The transfer engine (Section 8): starts, the pending slot, steps, ends, suspension and resumption. -/

namespace Sys2Proof.Machine

/-- What a step that begins or is tested comes to. -/
inductive StepResult where
  | waits
  | complete
  | failed (why : FailReason)
  | finished
  deriving DecidableEq, Repr

/-- The engine record changed. -/
def State.updEng (s : State) (f : Engine → Engine) : State := { s with eng := f s.eng }

/-- The plan in progress changed. -/
def Engine.updRun (e : Engine) (f : PlanRun → PlanRun) : Engine := { e with run := e.run.map f }

/-- The phase of the current step changed. -/
def State.setPhase (s : State) (ph : StepPhase) : State := s.updEng fun e => e.updRun fun r => { r with phase := ph }

/-- The result record changed. -/
def Engine.updResult (e : Engine) (f : ResultRec → ResultRec) : Engine := { e with result := e.result.map f }

/-- The cell of the current step. -/
def State.engCell (s : State) : Option Step := s.eng.run.bind fun r => s.set.plans[r.slot][r.step]

/-- The mark of a bus. -/
def Marks.get (m : Marks) : Bus → Timer
  | .a => m.a
  | .b => m.b
  | .n => m.n

/-- The mark of a bus replaced. -/
def Marks.put (m : Marks) (bus : Bus) (t : Timer) : Marks :=
  match bus with
  | .a => { m with a := t }
  | .b => { m with b := t }
  | .n => { m with n := t }

/-! ### Issuing a step (R137 to R141) -/

/-- A dead-time mark runs on a bus among the sides of the position (R141). -/
def State.markRuns (s : State) (p : Pos) : Bool := (sideBuses p).any fun bus => (s.eng.marks.get bus).isSome

/-- The dead-time marks set at the completion of an OPEN step: each side bus whose feed set is now empty (R141). A dead time of 0
expires at once. -/
def State.setMarks (s : State) (p : Pos) : State :=
  let t : Timer := if s.set.transferDead = 0 then none else some s.set.transferDead
  s.updEng fun e => { e with
    marks := (sideBuses p).foldl (fun m bus => if (s.feeds.get bus).isEmpty then m.put bus t else m) e.marks }

/-- An OPEN step issues (R138). -/
def State.issueOpen (s : State) (p : Pos) : StepResult × State :=
  match s.openRequest p .engine none with
  | (.started, s1) => (.waits, s1.setPhase .issued)
  | (.atOnce, s1) => (.complete, s1.setMarks p)
  | (.refused r, s1) => (.failed (.refusal r), s1)

/-- Checks 6 to 10 of an engine close (R139, R140). -/
def State.engCloseChecks (s : State) (p : Pos) (paired : Bool) : Option Result :=
  firstRefusal [s.checkCloseFlags p, s.parallelRule p paired]

/-- A CLOSE step issues (R139). -/
def State.issueClose (s : State) (p : Pos) : StepResult × State :=
  match s.checkPosition p with
  | some r => (.failed (.refusal r), s)
  | none =>
    if s.pos[p].state = .closed then (.complete, s)
    else match s.engCloseChecks p false with
      | some r => (.failed (.refusal r), s)
      | none => match s.closeRequest p .engine none with
        | (.started, s1) => (.waits, s1.setPhase .issued)
        | (.atOnce, s1) => (.complete, s1)
        | (.refused r, s1) => (.failed (.refusal r), s1)

/-- A CLOSE_SYNC step issues (R140). -/
def State.issueSync (s : State) (p : Pos) : StepResult × State :=
  match s.checkPosition p with
  | some r => (.failed (.refusal r), s)
  | none =>
    if s.pos[p].state = .closed then (.complete, s)
    else match s.engCloseChecks p true with
      | some r => (.failed (.refusal r), s)
      | none => match (s.setPhase .issued).syncJoin ⟨p, .engine, none, .auto⟩ with
        | (none, s1) => (.waits, s1)
        | (some r, _) => (.failed (.refusal r), s)

/-- Whether an OPEN, CLOSE or CLOSE_SYNC step may issue; it issues when it may (R137). A poll timer that runs already keeps its time. -/
def State.testIssue (s : State) (p : Pos) (isClose : Bool) (issue : State → StepResult × State) : StepResult × State :=
  if s.pos[p].state.inFlight then (.waits, s.updEng fun e => { e with poll := e.poll.or (some 10) })
  else
    let s1 := s.updEng fun e => { e with poll := none }
    if isClose && s.markRuns p then (.waits, s1) else issue s1

/-- The test of an OPEN, CLOSE or CLOSE_SYNC step. -/
def State.testStep (s : State) : StepResult × State :=
  match s.engCell with
  | some (.openPos p) => s.testIssue (smallPos p) false fun s => s.issueOpen (smallPos p)
  | some (.closePos p) => s.testIssue (smallPos p) true fun s => s.issueClose (smallPos p)
  | some (.closeSync p) => s.testIssue (smallPos p) true fun s => s.issueSync (smallPos p)
  | _ => (.waits, s)

/-! ### Waiting steps (R142) -/

/-- The voltage channel of a bus. -/
def busChan : Bus → Chan
  | .a => 25
  | .b => 26
  | .n => 27

/-- The generators ONLINE. -/
def State.gensOnline (s : State) : Nat := (allGens.filter fun g => s.led.gens[g].state == .online).length

/-- The condition of a waiting step (R142). -/
def State.stepMet (s : State) : Step → Bool
  | .waitDead bus _ => (s.feeds.get bus).isEmpty && (match s.voltNow (busChan bus) with
    | some v => decide (v ≤ 250)
    | none => false)
  | .waitHealthy m _ => (s.src.get m).state == .healthy
  | .requireGen c _ => decide (c ≤ s.gensOnline)
  | _ => false

/-- The step timer and the poll timer become idle. -/
def State.stopStepTimers (s : State) : State := s.updEng fun e => { e with stepTimer := .idle, poll := none }

/-- A waiting step judged against the state standing (R142). -/
def State.judgeWait (s : State) (st : Step) : StepResult × State :=
  if s.stepMet st then (.complete, s.stopStepTimers) else (.waits, s)

/-- A waiting step begins (R137). -/
def State.beginWait (s : State) (st : Step) (time : Nat) (poll : Timer) : StepResult × State :=
  ((s.setPhase .waiting).updEng fun e => { e with stepTimer := .running time, poll := poll }).judgeWait st

/-! ### Beginning a step (R137) -/

/-- The step index recorded in the result record, with the step timers idle. -/
def State.noteStep (s : State) : State :=
  match s.eng.run with
  | none => s
  | some r => (s.stopStepTimers).updEng fun e => e.updResult fun x => { x with step := r.step }

/-- The current step begins (R137). An EMPTY cell cannot be met in a runnable plan (log 26). -/
def State.beginStep (s : State) : StepResult × State :=
  let s1 := s.noteStep
  match s1.engCell with
  | some (.openPos _) | some (.closePos _) | some (.closeSync _) => (s1.setPhase .waitingToIssue).testStep
  | some (.waitDead bus t) => s1.beginWait (.waitDead bus t) t (some 10)
  | some (.requireGen c t) => s1.beginWait (.requireGen c t) t (some 10)
  | some (.waitHealthy m t) => s1.beginWait (.waitHealthy m t) t none
  | some (.dwell t) => (.waits, (s1.setPhase .waiting).updEng fun e => { e with stepTimer := .running t })
  | some .finish => (.finished, s1)
  | none => (.failed (.refusal .incomplete), s1)

/-- The index of the next step. -/
def State.advance (s : State) : State := s.updEng fun e => e.updRun fun r => { r with step := r.step + 1 }

/-! ### Start (R134) -/

/-- The MASTER entries of a position withdrawn from the synchronizer (R134). -/
def State.withdrawMaster (s : State) (p : Pos) : State :=
  if (s.sync.waits.any fun e => e.pos == p && e.cls == .master)
      || (s.sync.target.any fun e => e.pos == p && e.cls == .master) then s.withdraw p
  else s

/-- A start made: permits, withdrawals, marks, result record; the engine is RUNNING with step 0 to be begun (R134). Entries of several
positions are withdrawn in position order (log 37). -/
def State.startMade (s : State) (slot : SlotIx) (cause : StartCause) : State :=
  let set := s.set.plans[slot].posSet
  let s1 := (posMembers set).foldl State.withdrawMaster s
  State.raise
    { s1 with eng := { s1.eng with
        state := .running, run := some ⟨slot, set, 0, .waitingToIssue⟩, stepTimer := .idle, poll := none, marks := {}
        result := some { slot := slot, cause := cause, set := set, step := 0 } } } .engine

/-- A start attempted: checks 3 to 6 of R134. -/
def State.tryStart (s : State) (slot : SlotIx) (cause : StartCause) : Except Result State :=
  if s.modes.mode ≠ .run then .error .hold
  else if s.eng.state ≠ .idle then .error .busy
  else if !s.set.plans[slot].runnable then .error .incomplete
  else match s.engineStartPermits s.set.plans[slot].posSet with
    | none => .error .maint
    | some s1 => .ok (s1.startMade slot cause)

/-- A scenario that was not started, with its reason (R135, R136). -/
def State.notStarted (s : State) (c : Scenario) (why : NotStarted) : State :=
  (s.updEng fun e => { e with lastNot := some (c, why) }).raise .engine

/-- The reason of a start refused at check 5 or 6. -/
def startRefusal : Result → NotStarted
  | .maint => .maint
  | _ => .incomplete

/-! ### End and re-test (R136, R143) -/

/-- The engine's own synchronizer entry withdrawn when a CLOSE_SYNC step is ISSUED; the engine disregards its outcome (R143, R144). -/
def State.withdrawOwn (s : State) : State :=
  match s.eng.run, s.engCell with
  | some r, some (.closeSync p) => if r.phase = .issued then s.withdraw (smallPos p) false else s
  | _, _ => s

/-- The end of a plan, without the re-test that follows (R143). The permits are released and the wait list scanned within the end, before
the re-test and the start it may make, where R44 puts a scan after all other changes of its event (log 35). -/
def State.planEnds (s : State) (oc : PlanOutcome) : State :=
  let s1 := s.withdrawOwn
  let s2 := s1.updEng fun e => Engine.updResult
    { e with state := .idle, run := none, stepTimer := .idle, poll := none, marks := {} } fun r => { r with outcome := some oc }
  s2.engineRelease.raise .engine

/-- A scenario stands, judged against the state at the event (R124). -/
def State.stands (s : State) (c : Scenario) : Option SlotIx :=
  if s.condition c && s.src.auto && s.modes.mode == .run then s.set.scenarios.get c else none

/-- The re-test of a pending scenario; true when a start was made (R136). -/
def State.retest (s : State) : Bool × State :=
  match s.eng.pendingSc with
  | none => (false, s)
  | some c =>
    let s1 := (s.updEng fun e => { e with pendingSc := none }).raise .engine
    match s1.stands c with
    | none => (false, s1.notStarted c .noLongerStands)
    | some slot => match s1.tryStart slot (.scenario c) with
      | .ok s2 => (true, s2)
      | .error r => (false, s1.notStarted c (startRefusal r))

/-- The index of the step in progress. -/
def State.stepIndex (s : State) : CellIx :=
  match s.eng.run with
  | some r => r.step
  | none => 0

/-- The re-test that follows the end of a plan, with step 0 of the plan it starts (R136). -/
def State.afterPlan (s : State) : StepResult × State :=
  let r := s.retest
  if r.1 then r.2.beginStep else (.waits, r.2)

/-- What follows a step's result at one event: the next step, or the end of the plan with the re-test and the start it may make. -/
def State.follow (s : State) : StepResult → StepResult × State
  | .waits => (.waits, s)
  | .complete => s.advance.beginStep
  | .finished => (s.planEnds .completed).afterPlan
  | .failed why => (s.planEnds (.failed s.stepIndex why)).afterPlan

/-- Steps followed until one waits. The number bounds the steps and plans passed in one event. -/
def State.engLoop : Nat → StepResult → State → State
  | 0, _, s => s
  | n + 1, r, s => if r = .waits then s else State.engLoop n (s.follow r).1 (s.follow r).2

/-- A step's result carried through. Sixteen steps of a plan and of the one plan a re-test can start are fewer than 64. -/
def State.engGo (s : State) (r : StepResult) : State := s.engLoop 64 r

/-- The current step begun and carried through. -/
def State.engBegin (s : State) : State :=
  let r := s.beginStep
  r.2.engGo r.1

/-- The plan abandoned, with the re-test (R136, R143, R147). -/
def State.abandon (s : State) (why : AbandonReason) : State :=
  let r := (s.planEnds (.abandoned why)).afterPlan
  r.2.engGo r.1

/-! ### Scenarios handed over (R135) -/

/-- The pending scenario set. -/
def State.setPending (s : State) (c : Scenario) : State := (s.updEng fun e => { e with pendingSc := some c }).raise .engine

/-- A scenario handed over by the scenario logic with its slot (R135). -/
def State.takeScenario (s : State) (c : Scenario) (slot : SlotIx) : State :=
  if s.eng.state = .idle then
    match s.tryStart slot (.scenario c) with
    | .ok s1 => s1.engBegin
    | .error r => s.notStarted c (startRefusal r)
  else match s.eng.pendingSc with
    | none => s.setPending c
    | some old =>
      if c.urgency < old.urgency then (s.setPending c).notStarted old .outranked else s.notStarted c .outranked

/-! ### Suspension (R144, R145) -/

/-- A trip appended to the suspending trips list while it has room. -/
def State.noteTrip (s : State) (t : Pos × TripCause) : State :=
  s.updEng fun e => e.updResult fun r => if r.trips.length < 8 then { r with trips := r.trips ++ [t] } else r

/-- A running step timer is frozen with its time remaining. -/
def HeldTimer.freeze : HeldTimer → HeldTimer
  | .running t => .held t
  | x => x

/-- The close drive of a CLOSE step ISSUED on another position than the tripped one is ended (R144). -/
def State.endOwnDrive (s : State) (tripped : Pos) : State :=
  match s.eng.run, s.engCell with
  | some r, some (.closePos p) => if r.phase = .issued ∧ smallPos p ≠ tripped then s.endDrive (smallPos p) else s
  | _, _ => s

/-- The plan is suspended by a trip on a position of its set (R144). -/
def State.suspend (s : State) (p : Pos) : State :=
  let s1 := (s.endOwnDrive p).withdrawOwn
  ((s1.updEng fun e => { e with state := .suspended, stepTimer := e.stepTimer.freeze, poll := none }).setPhase .halted).raise .engine

/-- The position belongs to the current plan's position set. -/
def State.inPlan (s : State) (p : Pos) : Bool :=
  match s.eng.run with
  | some r => r.set.getLsbD p.val
  | none => false

/-- The engine takes a trip handed by the router (R144, R145). -/
def State.engineTrip (s : State) (p : Pos) (c : TripCause) : State :=
  if !s.inPlan p then s
  else match s.eng.state with
    | .idle => s
    | .running => (s.suspend p).noteTrip (p, c)
    | .suspended => (s.noteTrip (p, c)).raise .engine

/-! ### Outcomes (R138 to R140, R143, R145) -/

/-- The current step, when the engine is RUNNING with it ISSUED. -/
def State.issuedStep (s : State) : Option Step :=
  match s.eng.state, s.eng.run with
  | .running, some r => if r.phase = .issued then s.engCell else none
  | _, _ => none

/-- A pulse outcome reported to origin ENGINE; one that is not an outcome of the pulse of the step ISSUED is disregarded (R138, R139, R143,
R145). TAKEN_BY_TRIP suspends the plan (R144); that the trip is noted at the trip the router hands, and not here too, is the model's choice
(log 47). -/
def State.engineOutcome (s : State) (p : Pos) (oc : PulseOutcome) : State :=
  match s.issuedStep with
  | some (.openPos q) =>
    if smallPos q ≠ p then s
    else match oc with
      | .openedDone => (s.setMarks p).engGo .complete
      | .openFail => s.engGo (.failed .openFail)
      | .takenByTrip => s.suspend p
      | _ => s
  | some (.closePos q) =>
    if smallPos q ≠ p then s
    else match oc with
      | .closedDone => s.engGo .complete
      | .closeFail => s.engGo (.failed .closeFail)
      | .takenByTrip => s.suspend p
      | _ => s
  | _ => s

/-- A synchronizer outcome handed to the engine; one of the release on entry to HOLD is disregarded (R140, R145). -/
def State.engineSync (s : State) (p : Pos) (oc : SyncOutcome) : State :=
  match s.issuedStep with
  | some (.closeSync q) =>
    if smallPos q ≠ p then s
    else if oc = .done then s.engGo .complete
    else if oc = .cancelled ∧ s.modes.mode = .hold then s
    else s.engGo (.failed (.sync oc))
  | _ => s

/-- The current step, when the engine is RUNNING with it WAITING. -/
def State.waitingStep (s : State) : Option Step :=
  match s.eng.state, s.eng.run with
  | .running, some r => if r.phase = .waiting then s.engCell else none
  | _, _ => none

/-- A monitor state change handed to the engine (R123, R142). -/
def State.engineMonitor (s : State) : State :=
  match s.waitingStep with
  | some (.waitHealthy m t) => let r := s.judgeWait (.waitHealthy m t); r.2.engGo r.1
  | _ => s

/-- The abandon reason of an entry to HOLD (R147). -/
def HoldCause.abandon : HoldCause → AbandonReason
  | .stop => .stop
  | .secondFailure => .secondFailure
  | _ => .hold

/-- Entry to HOLD taken by the engine (R147). -/
def State.engineHold (s : State) (c : HoldCause) : State := if s.eng.state = .idle then s else s.abandon c.abandon

/-! ### Timers (R137, R141, R142) -/

/-- The step waits to be issued. -/
def State.waitsToIssue (s : State) : Bool :=
  s.eng.state == .running && (match s.eng.run with
    | some r => r.phase == .waitingToIssue
    | none => false)

/-- The poll timer runs out (R137, R142). -/
def State.pollExpiry (s : State) : State :=
  if !s.eng.poll.due then s
  else
    let s1 := s.updEng fun e => { e with poll := some 10 }
    if s1.waitsToIssue then let r := s1.testStep; r.2.engGo r.1
    else match s1.waitingStep with
      | some st => let r := s1.judgeWait st; r.2.engGo r.1
      | none => s

/-- The step timer runs out: a DWELL completes, another waiting step fails with TIMEOUT (R142). -/
def State.stepExpiry (s : State) : State :=
  if !s.eng.stepTimer.due then s
  else match s.waitingStep with
    | some (.dwell _) => s.stopStepTimers.engGo .complete
    | some _ => s.engGo (.failed .timeout)
    | none => s

/-- A dead-time mark runs out (R137, R141). -/
def State.markExpiry (s : State) (bus : Bus) : State :=
  if !(s.eng.marks.get bus).due then s
  else
    let s1 := s.updEng fun e => { e with marks := e.marks.put bus none }
    if s1.waitsToIssue then let r := s1.testStep; r.2.engGo r.1 else s1

/-! ### Requests -/

/-- PLAN_START after the master match (R134). -/
def State.planStart (s : State) (m : MasterIx) (slot : Nat) : Answer × State :=
  if !(s.roleOf m).station then s.answer .role
  else match finOf 8 slot with
    | none => s.answer .range
    | some sl => match s.tryStart sl (.master m) with
      | .error r => s.answer r
      | .ok s1 => ({ code := .accepted }, s1.engBegin)

/-- The requester is the master that started the plan, or a STATION role for a plan started by a scenario (R64, R146). -/
def State.ownsPlan (s : State) (m : MasterIx) : Bool :=
  match s.eng.result with
  | some { cause := .master h, .. } => h == m
  | some { cause := .scenario _, .. } => (s.roleOf m).station
  | none => false

/-- PLAN_RESUME after the master match (R146). -/
def State.planResume (s : State) (m : MasterIx) : Answer × State :=
  if s.modes.mode ≠ .run then s.answer .hold
  else if s.eng.state ≠ .suspended then s.answer .notFound
  else if !s.ownsPlan m then s.answer .role
  else ({ code := .done }, ((s.updEng fun e => { e with state := .running }).raise .engine).engBegin)

/-- PLAN_ABANDON after the master match (R147). -/
def State.planAbandon (s : State) (m : MasterIx) : Answer × State :=
  if !(s.roleOf m).stationOrMaint then s.answer .role
  else if s.eng.state = .idle then s.answer .notFound
  else ({ code := .done }, s.abandon (.request m))

/-! ### The plan store (R127 to R129) -/

/-- The slot is the current plan of the engine. -/
def State.planBusy (s : State) (slot : SlotIx) : Bool :=
  match s.eng.run with
  | some r => r.slot == slot
  | none => false

/-- Steps written into consecutive cells until one is not EMPTY: the plan, the count written, and the cell that stopped the write
(R128). -/
def writeCells : Plan → CellIx → List Step → Nat → Plan × Nat × Option CellIx
  | pl, _, [], n => (pl, n, none)
  | pl, i, x :: rest, n =>
    if pl[i].isSome then (pl, n, some i) else writeCells (pl.set i (some x)) (i + 1) rest (n + 1)

/-- One slot of the working copy replaced. -/
def State.setPlan (s : State) (slot : SlotIx) (pl : Plan) : State := { s with set := { s.set with plans := s.set.plans.set slot pl } }

/-- The steps of a PLAN_WRITE, when every one is valid and their number is 1 to 3 (R127, R128). -/
def planSteps (raw : List RawStep) : Option (List Step) :=
  if 1 ≤ raw.length ∧ raw.length ≤ 3 then raw.mapM stepOf else none

/-- PLAN_WRITE after the master match (R128). -/
def State.planWrite (s : State) (m : MasterIx) (slot start : Nat) (raw : List RawStep) : Answer × State :=
  if !(s.roleOf m).stationOrMaint then s.answer .role
  else match finOf 8 slot, finOf 16 start, planSteps raw with
    | some sl, some st, some steps =>
      if 2 ≤ s.base.guard then s.answer .guard
      else if s.planBusy sl then s.answer .busy
      else
        let w := writeCells s.set.plans[sl] st steps 0
        (match w.2.2 with
          | none => { code := .done, data := byte1 w.2.1 }
          | some i => { code := .notEmpty, data := byte1 w.2.1 ++ byte1 i.val },
        s.setPlan sl w.1)
    | _, _, _ => s.answer .range

/-- PLAN_CLEAR after the master match (R129). -/
def State.planClear (s : State) (m : MasterIx) (slot : Nat) : Answer × State :=
  if !(s.roleOf m).stationOrMaint then s.answer .role
  else match finOf 8 slot with
    | none => s.answer .range
    | some sl =>
      if 2 ≤ s.base.guard then s.answer .guard
      else if s.planBusy sl then s.answer .busy
      else ({ code := .done }, s.setPlan sl (Vector.replicate 16 none))

end Sys2Proof.Machine
end

