-- ==== Sys2Proof/Machine/Sources.lean ====
section
/-! DEFINITION. The source monitors and the scenario logic (Section 7). -/

namespace Sys2Proof.Machine

/-- Round classes (R118). -/
inductive RoundClass where
  | inBand | liveOut | deadRound | noValue | lostRound
  deriving DecidableEq, Repr

/-- The voltage channel of a monitor (Table 7.1). -/
def monitorChan : Source → Chan
  | .ua => 23
  | .ub => 24
  | .gb => 27

/-- The class of a monitor's entry in the delivered round (R118). -/
def State.roundClass (s : State) (m : Source) : RoundClass :=
  let c := s.meas.chans[monitorChan m]
  match c.status, c.last with
  | .measLost, _ => .lostRound
  | .present, some (v, _) =>
    if s.set.inBand v then .inBand
    else match v.volt with
      | some u => if 850 ≤ u then .liveOut else .deadRound
      | none => .noValue
  | _, _ => .noValue

/-- The return stability of a monitor in rounds, 100 to the second (R31, Table 7.2). -/
def State.returnRounds (s : State) (m : Source) : Nat := s.set.returnStab.get m * 100

/-- The loss timer after a round: suspended while the channel is MEAS_LOST, and running again from the round at which it leaves
(R121). -/
def HeldTimer.forRound (t : HeldTimer) (c : RoundClass) : HeldTimer :=
  match t, c with
  | .running r, .lostRound => .held r
  | .held r, .inBand | .held r, .liveOut | .held r, .deadRound | .held r, .noValue => .running r
  | t, _ => t

/-- The transition of Table 7.4, but for the end of the proof, which `stabilityProved` makes. -/
def MonRec.round (r : MonRec) (c : RoundClass) (lossDelay : Nat) : MonRec :=
  match r.state, c with
  | .dead, .inBand | .lost, .inBand => { state := .unstable, count := 1 }
  | .dead, .liveOut | .lost, .liveOut => { state := .unstable }
  | .unstable, .inBand => { r with count := r.count + 1 }
  | .unstable, .liveOut | .unstable, .noValue => { r with count := 0 }
  | .unstable, .deadRound => {}
  | .healthy, .liveOut | .healthy, .deadRound => { state := .failing, loss := .running lossDelay }
  | .failing, .inBand => { state := .healthy }
  | .failing, c => { r with loss := r.loss.forRound c }
  | _, _ => r

/-- A monitor record replaced; a change of state raises ENGINE and is handed to the engine and the scenario logic (R123). -/
def State.setMonitor (s : State) (m : Source) (r : MonRec) : State :=
  let s1 := { s with src := s.src.put m r }
  if (s.src.get m).state = r.state then s1
  else
    let s2 := s1.raise .engine
    { s2 with inbox := s2.inbox ++ [.monitorEngine, .monitorScenarios] }

/-- The count of an IN_BAND round compared with the return stability in force at the boundary (R119). -/
def MonRec.prove (r : MonRec) (c : RoundClass) (rounds : Nat) : MonRec :=
  { r with proved := r.state == .unstable && c == .inBand && decide (rounds ≤ r.count) }

/-- The proof is complete: the boundary has found the count at or above the return stability (R119). -/
def State.stabilityProved (s : State) (m : Source) : State :=
  if (s.src.get m).state = .unstable ∧ (s.src.get m).proved = true then s.setMonitor m { state := .healthy } else s

/-- A monitor takes a delivered round; GB is judged only while GB is in the feed set of N (R119, R122). -/
def State.monitorRound (s : State) (m : Source) : State :=
  if m = .gb ∧ s.feeds.n.gb = false then s
  else
    let c := s.roundClass m
    (s.setMonitor m (((s.src.get m).round c (s.set.lossDelay.get m)).prove c (s.returnRounds m))).stabilityProved m

/-- The loss timer runs out: the monitor becomes LOST (R120). -/
def State.lossExpiry (s : State) (m : Source) : State :=
  if (s.src.get m).loss.due && (s.src.get m).state == .failing then s.setMonitor m { state := .lost } else s

/-- The GB monitor takes a feed-set change (R122). -/
def State.monitorFeeds (s : State) (c : FeedChange) : State :=
  if c.before.n.gb && !c.after.n.gb then s.setMonitor .gb {} else s

/-! ### Scenarios (R124 to R126) -/

/-- The scenarios in the order in which they are handed (R125). -/
def scenarioOrder : List Scenario := [.lossBoth, .lossA, .lossB, .returnA, .returnB]

/-- A triggered scenario handed to the engine when it stands (R125). -/
def State.handScenario (flags : ScenarioFlags) (s : State) (c : Scenario) : State :=
  if flags.get c && s.src.auto && s.modes.mode == .run then
    match s.set.scenarios.get c with
    | some slot => s.takeScenario c slot
    | none => s
  else s

/-- A judgement event; `every` at the enabling of automatic transfer and at entry into RUN (R125). -/
def State.judgeScenarios (s : State) (every : Bool) : State :=
  let old := s.src.flags
  let new := s.conditions
  let s1 := { s with src := { s.src with flags := new } }
  (scenarioOrder.filter fun c => new.get c && (every || !old.get c)).foldl (State.handScenario new) s1

/-- AUTO_TRANSFER after the master match (R126). -/
def State.autoTransfer (s : State) (m : MasterIx) (enable : Nat) : Answer × State :=
  if !(s.roleOf m).station then s.answer .role
  else match flagOf enable with
    | none => s.answer .range
    | some on =>
      if on = s.src.auto then s.answer .done
      else
        let s1 := State.raise { s with src := { s.src with auto := on } } .engine
        ({ code := .done }, if on then s1.judgeScenarios true else s1)

end Sys2Proof.Machine
end

