-- ==== Sys2Proof/Machine/Protection.lean ====
section
/-! DEFINITION. The protection unit (Section 5): the round boundary in its five stages, zone blocks, setting groups and the freeze. -/

namespace Sys2Proof.Machine

/-- The protection state of one position changed. -/
def State.updProt (s : State) (p : Pos) (f : ProtRec → ProtRec) : State :=
  { s with prot := { s.prot with recs := s.prot.recs.set p (f s.prot.recs[p]) } }

/-- The element settings of a position's active group, as they stand in the settings in force (R92). -/
def State.activeSettings (s : State) (p : Pos) : ElemSettings := s.set.pos[p].group s.prot.recs[p].active

/-- The frame a position's current channel gave in the last round (R80). -/
def State.frameOf (s : State) (p : Pos) : Option Values := s.entry (currentChan p)

/-! ### Setting groups (R89 to R91) -/

/-- A position's group due after a recomputation (R90). -/
def ProtRec.recomputed (r : ProtRec) (g : Grp) : ProtRec := { r with due := if g = r.active then none else some g }

/-- The computed group of every position found again, and dues staged or removed (R89, R90). -/
def State.recomputeGroups (s : State) : State :=
  allPos.foldl (fun s p => s.updProt p fun r => r.recomputed (computedGroup s.prot.forceA s.prot.forceB s.feeds p)) s

/-- A staged group adopted (R90). -/
def ProtRec.adopt (r : ProtRec) : ProtRec :=
  match r.due with
  | some g => { r with active := g, due := none }
  | none => r

/-- Stage 1: adoption, with one PROTECTION notice when any active group changes (R79, R90). -/
def State.adoptGroups (s : State) : State :=
  let changed := allPos.any fun p => s.prot.recs[p].due.isSome
  (allPos.foldl (fun s p => s.updProt p ProtRec.adopt) s).raiseIf changed .protection

/-- GROUP_FORCE after the master match (R91). -/
def State.groupForce (s : State) (m : MasterIx) (sec choice : Nat) : Answer × State :=
  if !(s.roleOf m).stationOrMaint then s.answer .role
  else match secOf sec, forceOf choice with
    | some x, some f =>
      if 1 ≤ s.base.guard then s.answer .guard
      else
        let p := match x with
          | .a => { s.prot with forceA := f }
          | .b => { s.prot with forceB := f }
        ({ code := .done }, State.recomputeGroups { s with prot := p })
    | _, _ => s.answer .range

/-! ### Stage 2: settings (R92) -/

/-- The element settings of a position's active group read. They are those the position is judged by until the next boundary. -/
def State.readSettings (s : State) (p : Pos) : State := s.updProt p fun r => { r with read := s.activeSettings p }

/-! ### Stage 3: pickups (R80 to R85, R93) -/

/-- The pickup flags a frame gives under the element settings. -/
def ProtRec.pickups (r : ProtRec) (p : Pos) (e : ElemSettings) (v : Values) : ProtRec :=
  { r with
    inst := { r.inst with pickup := match e.instPickup with
      | some k => decide (k < v.phase)
      | none => false }
    time := { r.time with pickup := decide (e.timePickup ≤ v.phase) }
    ground := { r.ground with pickup := decide (e.groundPickup ≤ v.ground) }
    rev := { r.rev with pickup := isGenBreaker p && v.reverse && decide (e.revPickup < v.power) } }

/-- Every pickup flag cleared. -/
def ProtRec.noPickups (r : ProtRec) : ProtRec :=
  { r with
    inst := { r.inst with pickup := false }, time := { r.time with pickup := false }
    ground := { r.ground with pickup := false }, rev := { r.rev with pickup := false } }

/-- The freeze of a position set from its channel's status; entry and exit raise PROTECTION (R93). -/
def State.setFreeze (s : State) (p : Pos) : State :=
  let lost := s.meas.chans[currentChan p].status == .measLost
  (s.updProt p fun r => { r with frozen := lost }).raiseIf (lost != s.prot.recs[p].frozen) .protection

/-- Stage 3 for one position. The freeze follows the channel of every position; only a fitted one is judged (R78, R93). -/
def State.pickupPos (s : State) (p : Pos) : State :=
  let s1 := s.setFreeze p
  if !s.fitted p then s1
  else
    s1.updProt p fun r => match s1.frameOf p with
      | some v => r.pickups p r.read v
      | none => r.noPickups

/-- A channel that has entered MEAS_LOST freezes the elements of the position whose current channel it is, with every pickup flag clear
(R93). -/
def State.channelLost (s : State) (c : Chan) : State :=
  match posOf c.val with
  | none => s
  | some p => (s.setFreeze p).updProt p ProtRec.noPickups

/-! ### Stage 4: zone blocks (R87, R88) -/

/-- The feeders of a section. -/
def sectionFeeders (sec : BusSec) : List Pos := feeders.filter fun p => feederSec p == sec

/-- A fitted feeder of the section has the pickup flag of I> or of I>> set. -/
def State.feederPickup (s : State) (sec : BusSec) : Bool :=
  (sectionFeeders sec).any fun p => s.fitted p && (s.prot.recs[p].time.pickup || s.prot.recs[p].inst.pickup)

/-- The block of a section. -/
def Protection.block (t : Protection) : BusSec → SecBlock
  | .a => t.blockA
  | .b => t.blockB

/-- The block of a section replaced. -/
def State.setBlock (s : State) (sec : BusSec) (k : SecBlock) : State :=
  let p := match sec with
    | .a => { s.prot with blockA := k }
    | .b => { s.prot with blockB := k }
  State.raiseIf { s with prot := p } (k.raised != (s.prot.block sec).raised) .protection

/-- The block input of a position 0 to 4 (R87). -/
def Protection.blockInput (t : Protection) (p : Pos) : Bool :=
  match p.val with
  | 0 | 3 => t.blockA.raised
  | 1 | 4 => t.blockB.raised
  | 2 => t.blockA.raised || t.blockB.raised
  | _ => false

/-- The block inputs of positions 0 to 4 set from the section blocks (R87). -/
def State.setBlockInputs (s : State) : State :=
  ([0, 1, 2, 3, 4] : List Pos).foldl (fun s p => s.updProt p fun r => { r with blockInput := s.prot.blockInput p }) s

/-- The hold of a section block has run out: the block becomes CLEAR, and the block inputs follow (R87). -/
def State.zoneHoldExpiry (s : State) (sec : BusSec) : State :=
  if (s.prot.block sec).spent then (s.setBlock sec {}).setBlockInputs else s

/-- A section block updated at a boundary (R87). -/
def State.updateBlock (s : State) (sec : BusSec) : State :=
  let k := s.prot.block sec
  if s.feederPickup sec then s.setBlock sec { raised := true }
  else if !k.raised then s
  else if k.hold = 0 then s.setBlock sec { raised := true, hold := 5 }
  else if k.hold = 1 then (s.setBlock sec { raised := true, spent := true }).zoneHoldExpiry sec
  else s.setBlock sec { raised := true, hold := k.hold - 1 }

/-- Stage 4: both section blocks and the block inputs. -/
def State.zoneBlocks (s : State) : State := ((s.updateBlock .a).updateBlock .b).setBlockInputs

/-! ### Stage 5: counts and operation (R81 to R86) -/

/-- A count of consecutive frames or rounds: one more while the condition holds, and 0 with the operated flag cleared when it fails. -/
def ElemRec.run (x : ElemRec) (cap : Nat) : ElemRec :=
  if x.pickup then { x with count := min cap (x.count + 1) } else { x with count := 0, operated := false }

/-- The I>> count (R81). -/
def ElemRec.runInst (x : ElemRec) (e : ElemSettings) : ElemRec :=
  if e.instPickup.isNone then { x with count := 0, operated := false } else x.run 255

/-- The I> accumulator (R82, R83). -/
def ElemRec.runTime (x : ElemRec) (e : ElemSettings) (current : Nat) : ElemRec :=
  if x.pickup then { x with count := min 65535 (x.count + timeStep e current) }
  else
    { x with
      operated := false
      count := match e.resetMode with
        | .instant => 0
        | .decay => x.count - e.decayStep }

/-- The counts of a position after a frame. -/
def ProtRec.advance (r : ProtRec) (e : ElemSettings) (v : Values) : ProtRec :=
  { r with
    inst := r.inst.runInst e, time := r.time.runTime e v.phase, ground := r.ground.run 1000, rev := r.rev.run 1000 }

/-- The counts of a position after a round without a frame (R80). -/
def ProtRec.missed (r : ProtRec) : ProtRec := { r with ground := { r.ground with count := 0 }, rev := { r.rev with count := 0 } }

/-- An I>> whose pickup is OFF has its count at 0 and its operated flag clear at every boundary, a round without a frame and a frozen one
included (R81, R92; log 27). -/
def ProtRec.offInst (r : ProtRec) (e : ElemSettings) : ProtRec :=
  if e.instPickup.isNone then { r with inst := { r.inst with count := 0, operated := false } } else r

/-- The threshold of an element under the settings of its group (R81, R82, R84, R85). -/
def elemThreshold (r : ProtRec) (p : Pos) (e : ElemSettings) : Element → Nat
  | .inst => if p.val ≤ 4 ∧ r.blockInput = true then 15 else 2
  | .time => 60000
  | .ground => e.groundDelay
  | .reversePower => e.revDelay

/-- The operating condition of an element is met, under the settings the latest boundary read (R84, R92). -/
def State.elementReady (s : State) (p : Pos) (e : Element) : Bool :=
  let r := s.prot.recs[p]
  let x := r.elem e
  s.fitted p && hasElement p e && !r.frozen && x.pickup && !x.operated
    && decide (elemThreshold r p r.read e ≤ x.count)

/-- The value an element judges in a frame (R86). -/
def Values.judged (v : Values) : Element → Nat
  | .inst | .time => v.phase
  | .ground => v.ground
  | .reversePower => v.power

/-- An element whose condition is met operates: its operated flag is set and its trip request sent (R86). -/
def State.elementOperate (s : State) (p : Pos) (e : Element) : State :=
  if s.elementReady p e then
    (s.updProt p fun r => r.putElem e { r.elem e with operated := true }).tripRequest p (causeOf e)
      ((s.frameOf p).map fun v => v.judged e) s.prot.recs[p].active none
  else s

/-- Stage 5 for one position: the counts, then the elements in the order of R86. -/
def State.operatePos (s : State) (p : Pos) : State :=
  if !s.fitted p then s
  else if s.prot.recs[p].frozen then s.updProt p fun r => r.offInst r.read
  else match s.frameOf p with
    | none => s.updProt p fun r => r.missed.offInst r.read
    | some v =>
      [Element.inst, .time, .ground, .reversePower].foldl (fun s e => s.elementOperate p e) (s.updProt p fun r => r.advance r.read v)

/-- Stages 1 to 4 of a boundary: adoption, settings, pickups and zone blocks (R79). -/
def State.judgePickups (s : State) : State :=
  (allPos.foldl State.pickupPos (allPos.foldl State.readSettings s.adoptGroups)).zoneBlocks

/-- The protection unit takes a delivered round: stages 1 to 4, and stage 5 position by position in a free order (R79). -/
def State.protectionRound (s : State) : State :=
  let s1 := s.judgePickups
  let order := s1.anyOrder allPos
  order.1.foldl State.operatePos order.2

end Sys2Proof.Machine
end

