-- ==== Sys2Proof/Machine/Measure.lean ====
section
/-! DEFINITION. The measurement port (Section 2): the round in assembly, the boundary and the channel records. -/

namespace Sys2Proof.Machine

/-- The channels in order. -/
def allChans : List Chan := (List.range 34).filterMap (finOf 34)

/-- The port's record changed. -/
def State.updMeas (s : State) (f : Meas → Meas) : State := { s with meas := f s.meas }

/-- One channel record replaced. -/
def Meas.setChan (t : Meas) (c : Chan) (r : ChanRec) : Meas := { t with chans := t.chans.set c r }

/-- A channel whose absence count has reached 3 enters MEAS_LOST, marked in the round (R29). -/
def Meas.lostEntry (t : Meas) (c : Chan) : Meas :=
  let r := t.chans[c]
  if r.absence = 3 ∧ r.status ≠ .measLost then
    { t.setChan c { r with status := .measLost } with
      round := t.round.map fun i => { i with entered := i.entered ++ [c] } }
  else t

/-- The blocks that act when a channel enters MEAS_LOST: the protection unit for a current channel (R93), the source monitor of a voltage
channel (R121). -/
def lossEvents (c : Chan) : List Handed :=
  (if c.val < 23 then [.lostProtection c] else [])
    ++ ([Source.ua, .ub, .gb].filter fun m => monitorChan m == c).map Handed.lostMonitor

/-- MEAS_LOST entry of a channel, handed to the blocks that act on it (R29, R93, R121; log 6). -/
def State.measLostEntry (s : State) (c : Chan) : State :=
  if s.meas.chans[c].absence = 3 ∧ s.meas.chans[c].status ≠ .measLost then
    { s.updMeas (fun t => t.lostEntry c) with inbox := s.inbox ++ lossEvents c }
  else s

/-- The record of a channel after a round without a frame for it, before MEAS_LOST is entered (R28). -/
def ChanRec.missed (r : ChanRec) : ChanRec :=
  { r with
    absence := min 3 (r.absence + 1)
    status := match r.status with
      | .present => .absent
      | x => x }

/-- A channel delivered with a frame; leaving MEAS_LOST is marked in the round (R28, R29). -/
def Meas.delivered (t : Meas) (c : Chan) (v : Values) (stamp : Stamp) : Meas :=
  let left := t.chans[c].status == .measLost
  { t.setChan c ⟨.present, 0, some (v, stamp)⟩ with
    round := if left then t.round.map fun i => { i with left := i.left ++ [c] } else t.round }

/-- One channel at a boundary (R28). -/
def Meas.deliver (stamp : Stamp) (t : Meas) (c : Chan) : Meas :=
  match t.slots[c] with
  | some v => t.delivered c v stamp
  | none => (t.setChan c t.chans[c].missed).lostEntry c

/-- What a boundary hands on (R30). -/
def roundEvents : List Handed :=
  [.roundProtection, .roundMonitor .ua, .roundMonitor .ub, .roundMonitor .gb, .roundLedger, .roundSettle, .roundStaged]

/-- A boundary: entries and channel records, slots emptied, timer restarted, and the round handed on (R27). -/
def State.boundary (s : State) (byMarker : Bool) : State :=
  let stamp := s.base.timeBase
  let t := allChans.foldl (Meas.deliver stamp) { s.meas with round := some ⟨byMarker, stamp, [], []⟩ }
  { s with
    meas := { t with slots := Vector.replicate 34 none, roundTimer := some 25 }
    inbox := s.inbox ++ roundEvents }

/-- A data frame placed in the slot of its channel (R25). -/
def State.measData (s : State) (c : Chan) (v : Values) : State := s.updMeas fun t => { t with slots := t.slots.set c (some v) }

/-- A marker closes the round when it holds a data frame, and is discarded otherwise (R26). -/
def State.measMarker (s : State) : State := if s.meas.slots.toList.any Option.isSome then s.boundary true else s

/-- A frame arrives at the measurement port (R23). -/
def State.measArrive (s : State) (bytes : List Byte) : State :=
  if s.base.phase ≠ .running then s
  else match parseMeas bytes with
    | some (.data c v) => s.measData c v
    | some .marker => s.measMarker
    | none => s

/-- The round timer runs out and closes the round itself (R27). -/
def State.roundExpiry (s : State) : State := if s.meas.roundTimer.due then s.boundary false else s

end Sys2Proof.Machine
end

