-- ==== Sys2Proof/Machine/Interlock.lean ====
section
/-! DEFINITION. The interlock evaluator (Section 4): layers, overlap supervision, the group switch and the acceptance of master
commands. -/

namespace Sys2Proof.Machine

/-- The interlock record changed. -/
def State.updInter (s : State) (f : Interlock → Interlock) : State := { s with inter := f s.inter }

/-! ### Layers (R57 to R60, R62) -/

/-- A layer, named by the section letter of its station. -/
def Interlock.layer (t : Interlock) : BusSec → Layer
  | .a => t.layerA
  | .b => t.layerB

/-- A layer replaced. -/
def Interlock.putLayer (t : Interlock) (x : BusSec) (l : Layer) : Interlock :=
  match x with
  | .a => { t with layerA := l }
  | .b => { t with layerB := l }

/-- The role that writes a layer (R57). -/
def layerRole : BusSec → Role
  | .a => .stationA
  | .b => .stationB

/-- The close and open entries of one position, when both codes are entries. -/
def entryPair (e : Nat × Nat) : Option (LayerEntry × LayerEntry) :=
  (layerEntryOf e.1).bind fun c => (layerEntryOf e.2).map fun o => (c, o)

/-- Entries written from a position on. -/
def LayerCopy.write : LayerCopy → Nat → List (LayerEntry × LayerEntry) → LayerCopy
  | t, _, [] => t
  | t, n, e :: rest =>
    match posOf n with
    | none => t
    | some p => LayerCopy.write { close := t.close.set p e.1, opn := t.opn.set p e.2 } (n + 1) rest

/-- LAYER_WRITE after the master match (R58). -/
def State.layerWrite (s : State) (m : MasterIx) (layer first : Nat) (entries : List (Nat × Nat)) : Answer × State :=
  match secOf layer with
  | none => s.answer .range
  | some x =>
    if s.roleOf m ≠ layerRole x then s.answer .role
    else if entries = [] ∨ 16 < entries.length ∨ 23 < first + entries.length then s.answer .range
    else match entries.mapM entryPair with
      | none => s.answer .range
      | some es =>
        let l := s.inter.layer x
        let base := l.staging.getD l.committed
        ({ code := .done }, s.updInter fun t => t.putLayer x { l with staging := some (base.write first es) })

/-- LAYER_COMMIT after the master match; the change is handed to the ledger (R59). -/
def State.layerCommit (s : State) (m : MasterIx) (layer : Nat) : Answer × State :=
  match secOf layer with
  | none => s.answer .range
  | some x =>
    if s.roleOf m ≠ layerRole x then s.answer .role
    else
      let l := s.inter.layer x
      match l.staging with
      | none => s.answer .notFound
      | some c =>
        ({ code := .done },
          (s.updInter fun t => t.putLayer x { committed := c, staging := none, commits := l.commits + 1 }).hand .layerLedger)

/-- LAYER_ABANDON after the master match (R59). -/
def State.layerAbandon (s : State) (m : MasterIx) (layer : Nat) : Answer × State :=
  match secOf layer with
  | none => s.answer .range
  | some x =>
    if s.roleOf m ≠ layerRole x then s.answer .role
    else ({ code := .done }, s.updInter fun t => t.putLayer x { t.layer x with staging := none })

/-- The combine mode set; a change is handed to the ledger as a layer change (R62). -/
def State.changeCombine (s : State) (c : CombineMode) : State :=
  if s.set.combine = c then s else State.hand { s with set := { s.set with combine := c } } .layerLedger

/-- SET_COMBINE after the master match (R62). -/
def State.setCombine (s : State) (m : MasterIx) (mode : Nat) : Answer × State :=
  if !(s.roleOf m).station then s.answer .role
  else match combineOf mode with
    | none => s.answer .range
    | some c => if 2 ≤ s.base.guard then s.answer .guard else ({ code := .done }, s.changeCombine c)

/-! ### Overlap supervision (R70 to R72) -/

/-- The possible joins. -/
def allJoins : List JoinId := [.uaUb, .uaGb, .ubGb]

/-- The joins after a feed-set change: those formed are recorded with the position, those broken removed (R70). -/
def State.trackJoin (c : FeedChange) (s : State) (j : JoinId) : State :=
  if c.after.joined j && !c.before.joined j then
    s.updInter fun t => { t with joins := t.joins.put j (some ⟨c.pos, some s.set.overlapTime⟩) }
  else if c.before.joined j && !c.after.joined j then s.updInter fun t => { t with joins := t.joins.put j none }
  else s

/-- The change forms a join. -/
def FeedChange.forms (c : FeedChange) : Bool := allJoins.any fun j => c.after.joined j && !c.before.joined j

/-- Both sides of the closed position were live, by the feed sets before the change (R72). -/
def State.sidesLive (s : State) (f : Feeds) (p : Pos) : Bool :=
  match sidesOf f p with
  | some (x, y) => s.judgeSide x == .live && s.judgeSide y == .live
  | none => false

/-- The synchronizer has the position as its target with the live window indication set (R72, R153). -/
def State.windowOn (s : State) (p : Pos) : Bool := (s.sync.target.map (·.pos)) == some p && s.sync.att.live

/-- The interlock evaluator takes a feed-set change (R70, R72). -/
def State.interlockFeeds (s : State) (c : FeedChange) : State :=
  let s1 := allJoins.foldl (State.trackJoin c) s
  if c.kind = .uncommandedClose ∧ c.forms = true ∧ s1.sidesLive c.before c.pos = true ∧ s1.windowOn c.pos = false then
    s1.tripPlain c.pos .unauthParallel none
  else s1

/-- The connecting positions among QT, QNA and QNB. -/
def State.connectingTies (s : State) : List Pos := ([2, 3, 4] : List Pos).filter fun p => s.pos[p].state.connecting

/-- An overlap timer runs out (R71). -/
def State.overlapExpiry (s : State) (j : JoinId) : State :=
  match s.inter.joins.get j with
  | none => s
  | some r =>
    if r.timer.due then
      let s1 := s.updInter fun t => { t with joins := t.joins.put j (some { r with timer := none }) }
      if s1.pos[r.pos].state.connecting then s1.tripPlain r.pos .overlap none
      else s1.connectingTies.foldl (fun s p => s.tripPlain p .overlap none) s1
    else s

/-! ### Group switching (R73 to R76) -/

/-- The group record changed. -/
def State.updGroup (s : State) (f : Group → Group) : State := s.updInter fun t => { t with group := f t.group }

/-- The action list of a group switch, in position order (R73). -/
def State.groupList (s : State) (mask : PosMask) (marked : Bool) (unmarked : Option Bool) : List GroupEntry :=
  allPos.filterMap fun p =>
    if mask.getLsbD p.val then some ⟨p, marked, .pending⟩
    else match unmarked with
      | some a => if s.fitted p then some ⟨p, a, .pending⟩ else none
      | none => none

/-- The position is already in the state the action asks for (R64). -/
def State.inPlace (s : State) (p : Pos) (close : Bool) : Bool := s.pos[p].state == (if close then .closed else .opened)

/-- The checks of one entry at acceptance (R73). -/
def State.groupCheck (s : State) (m : MasterIx) (less : PosMask) (e : GroupEntry) : Option Result :=
  match s.checkRequester m e.pos (s.holds m e.pos) with
  | some r => some r
  | none =>
    if s.inPlace e.pos e.close then none
    else if e.close then
      firstRefusal [s.checkCloseFlags e.pos, s.groupParallel less e.pos, s.capacityCheck e.pos 0]
    else s.checkOpenPermit e.pos

/-- The positions a list opens. -/
def groupOpens (es : List GroupEntry) : PosMask := maskOf ((es.filter fun e => !e.close).map (·.pos))

/-- The result of one entry of the list set. -/
def State.setGroupResult (s : State) (p : Pos) (r : GroupResult) : State :=
  s.updGroup fun g => { g with list := g.list.map fun e => if e.pos = p then { e with result := r } else e }

/-- The group completes: IDLE, with the GROUP notice for its requester (R75). -/
def State.groupComplete (s : State) : State :=
  let s1 := s.updGroup fun g => { g with phase := .idle, dead := none }
  match s.inter.group.requester with
  | some m => s1.raiseFor m .group
  | none => s1

/-- An entry with the given action and result stands in the list. -/
def State.groupHas (s : State) (f : GroupEntry → Bool) : Bool := s.inter.group.list.any f

/-- The group completes in CLOSING when no entry is ISSUED or PENDING (R75). -/
def State.settleClosing (s : State) : State :=
  if s.groupHas fun e => e.result == .issued || e.result == .pending then s else s.groupComplete

/-- The checks of a close at its issue, but for check 2 (R75). -/
def State.groupIssueCheck (s : State) (m : MasterIx) (p : Pos) : Option Result :=
  firstRefusal [require (s.modes.mode == .run) .hold, require (s.holds m p) .notHeld, s.checkPosition p]

/-- Checks 6 to 11 of a close at its issue (R75). -/
def State.groupCloseCheck (s : State) (p : Pos) (extra : Nat) : Option Result :=
  firstRefusal [s.checkCloseFlags p, s.parallelRule p false, s.capacityCheck p extra]

/-- The result of one CLOSE entry at its issue (R75). -/
def State.groupCloseOne (s : State) (m : MasterIx) (p : Pos) (extra : Nat) : GroupResult × State :=
  match s.groupIssueCheck m p with
  | some r => (.skipped r, s)
  | none =>
    if s.pos[p].state = .closed then (.done, s)
    else match s.groupCloseCheck p extra with
      | some r => (.skipped r, s)
      | none => match s.closeRequest p .group (some m) with
        | (.started, s1) => (.issued, s1)
        | (.atOnce, s1) => (.done, s1)
        | (.refused r, s1) => (.skipped r, s1)

/-- The CLOSE entries issued in position order; the demand of every feeder issued so far is carried along (R75). -/
def State.groupCloses (m : MasterIx) : List GroupEntry → Nat → State → State
  | [], _, s => s
  | e :: rest, extra, s =>
    if e.close && e.result == .pending then
      let r := s.groupCloseOne m e.pos extra
      let more := if r.1 = .issued ∧ isFeeder e.pos = true then s.set.pos[e.pos].demand else 0
      State.groupCloses m rest (extra + more) (r.2.setGroupResult e.pos r.1)
    else State.groupCloses m rest extra s

/-- The dead time is over: the closes are issued (R75). -/
def State.groupClosing (s : State) : State :=
  let s1 := s.updGroup fun g => { g with phase := .closing, dead := none }
  match s.inter.group.requester with
  | some m => (State.groupCloses m s.inter.group.list 0 s1).settleClosing
  | none => s1.settleClosing

/-- The end of OPENING: when no open is ISSUED, the dead time runs, or the group completes without one (R74, R76). A dead time of 0
expires at once. -/
def State.settleOpening (s : State) : State :=
  if s.groupHas fun e => !e.close && e.result == .issued then s
  else if s.groupHas fun e => e.close && e.result == .pending then
    if s.set.groupDead = 0 then s.groupClosing
    else s.updGroup fun g => { g with phase := .deadTime, dead := some s.set.groupDead }
  else s.groupComplete

/-- One OPEN entry dealt with at acceptance (R74). -/
def State.groupOpenOne (m : MasterIx) (s : State) (e : GroupEntry) : State :=
  if e.close then s
  else if s.pos[e.pos].state = .opened then s.setGroupResult e.pos .done
  else match s.openRequest e.pos .group (some m) with
    | (.refused r, s1) => s1.setGroupResult e.pos (.skipped r)
    | (_, s1) => s1.setGroupResult e.pos .issued

/-- A group accepted: the record is taken, the leases renewed, and the opens made (R73, R74). -/
def State.groupAccept (s : State) (m : MasterIx) (es : List GroupEntry) : State :=
  let s1 := es.foldl (fun s e => s.renew m e.pos) s
  let s2 := s1.updGroup fun _ => { requester := some m, phase := .opening, list := es, dead := none }
  (es.foldl (State.groupOpenOne m) s2).settleOpening

/-- GROUP_SWITCH after the master match (R73). An action code outside Table 4.11 is answered RANGE, before BUSY (log 33). -/
def State.groupSwitch (s : State) (m : MasterIx) (mask : PosMask) (marked unmarked : Nat) : Answer × State :=
  match markedOf marked, unmarkedOf unmarked with
  | some a, some u =>
    if mask = 0 ∧ u = none then s.answer .range
    else if s.inter.group.phase ≠ .idle then s.answer .busy
    else
      let es := s.groupList mask a u
      match es.findSome? fun e => (s.groupCheck m (groupOpens es) e).map fun r => (r, e.pos) with
      | some (r, p) => s.answer r (posByte p)
      | none => ({ code := .accepted }, s.groupAccept m es)
  | _, _ => s.answer .range

/-- The result a pulse outcome gives its entry (R74, R75). -/
def groupResult : PulseOutcome → GroupResult
  | .openedDone | .closedDone => .done
  | oc => .failed oc

/-- A pulse outcome reported to origin GROUP (R74, R75). -/
def State.groupOutcome (s : State) (p : Pos) (oc : PulseOutcome) : State :=
  if s.groupHas fun e => e.pos == p && e.result == .issued then
    let s1 := s.setGroupResult p (groupResult oc)
    match s.inter.group.phase with
    | .opening => s1.settleOpening
    | .closing => s1.settleClosing
    | _ => s1
  else s

/-- The dead timer runs out (R75). -/
def State.deadExpiry (s : State) : State :=
  if s.inter.group.dead.due && s.inter.group.phase == .deadTime then s.groupClosing else s

/-- Entry to HOLD at the group switch (R76). -/
def State.groupHold (s : State) : State :=
  let s1 := s.updGroup fun g => { g with
    list := g.list.map fun e => if e.close && e.result == .pending then { e with result := .cancelled } else e }
  if s.inter.group.phase = .deadTime then s1.groupComplete else s1

/-! ### Acceptance of master commands (R63 to R66) -/

/-- OPEN after the master match (R64). -/
def State.masterOpen (s : State) (m : MasterIx) (pos : Nat) : Answer × State :=
  match posOf pos with
  | none => s.answer .range
  | some p => match s.checkRequester m p (s.holds m p) with
    | some r => s.answer r
    | none =>
      if s.pos[p].state = .opened then ({ code := .done }, s.renew m p)
      else match s.checkOpenPermit p with
        | some r => s.answer r
        | none => match s.openRequest p .master (some m) with
          | (.refused r, _) => s.answer r
          | (_, s1) => ({ code := .accepted }, s1.renew m p)

/-- Checks 6 to 11 of a master CLOSE. -/
def State.closeChecks (s : State) (p : Pos) : Option Result :=
  firstRefusal [s.checkCloseFlags p, s.parallelRule p false, s.capacityCheck p 0]

/-- CLOSE after the master match (R64). -/
def State.masterClose (s : State) (m : MasterIx) (pos : Nat) : Answer × State :=
  match posOf pos with
  | none => s.answer .range
  | some p => match s.checkRequester m p (s.holds m p) with
    | some r => s.answer r
    | none =>
      if s.pos[p].state = .closed then ({ code := .done }, s.renew m p)
      else match s.closeChecks p with
        | some r => s.answer r
        | none => match s.closeRequest p .master (some m) with
          | (.refused r, _) => s.answer r
          | (_, s1) => ({ code := .accepted }, s1.renew m p)

/-- CLOSE_SYNC after the master match (R64, R65). A mode that is neither AUTO nor STEPPED is answered RANGE before the checks of Table 4.8,
where R63 orders only the position's (log 33). -/
def State.masterCloseSync (s : State) (m : MasterIx) (pos mode : Nat) : Answer × State :=
  match syncPosOf pos, syncModeOf mode with
  | some p, some md => match s.checkRequester m p (s.holds m p) with
    | some r => s.answer r
    | none =>
      if s.pos[p].state = .closed then ({ code := .done }, s.renew m p)
      else match firstRefusal [s.checkCloseFlags p, s.parallelRule p true] with
        | some r => s.answer r
        | none => match s.syncJoin ⟨p, .master, some m, md⟩ with
          | (some r, _) => s.answer r
          | (none, s1) => ({ code := .accepted }, s1.renew m p)
  | _, _ => s.answer .range

/-- Check 3 for RESET_TRIP: a permit of the requester, or the ENGINE permit of a suspended plan the requester answers for (R64). -/
def State.resetHolder (s : State) (m : MasterIx) (p : Pos) : Bool :=
  s.holds m p || (s.auth.permits[p] == some .engine && s.eng.state == .suspended && s.ownsPlan m)

/-- TRIP_LOCKED and BF cleared, with a lock-word update and the POSITION notice when either was set (R66). -/
def State.clearLocks (s : State) (p : Pos) : State :=
  if s.pos[p].tripLocked || s.pos[p].bf then
    ((s.updPos p fun r => { r with tripLocked := false, bf := false }).askLock).raise .position
  else s

/-- RESET_TRIP after the master match (R66). -/
def State.resetTrip (s : State) (m : MasterIx) (pos : Nat) : Answer × State :=
  match posOf pos with
  | none => s.answer .range
  | some p => match s.checkRequester m p (s.resetHolder m p) with
    | some r => s.answer r
    | none => ({ code := .done }, (s.clearLocks p).renew m p)

/-- UNSHED after the master match (R66, R180). -/
def State.masterUnshed (s : State) (m : MasterIx) (pos : Nat) : Answer × State :=
  match feederOf pos with
  | none => s.answer .range
  | some p => match s.checkRequester m p (s.holds m p) with
    | some r => s.answer r
    | none => ({ code := .done }, (s.unshedFeeder p).renew m p)

end Sys2Proof.Machine
end

