-- ==== Sys2Proof/Machine/Modes.lean ====
section
/-! DEFINITION. Settings, SAVE, the guard level and the operating modes (Section 12). -/

namespace Sys2Proof.Machine

/-! ### Writing settings (R195) -/

/-- The staged write of one element setting; an earlier one of the same setting is replaced. -/
def State.stage (s : State) (w : StagedWrite) : State :=
  { s with staged := s.staged.filter (fun x => !(x.pos == w.pos && x.grp == w.grp && x.elem == w.elem)) ++ [w] }

/-- The pending notice set, the due NOTICE frame and the last-used port of a rewritten entry removed (R187). -/
def Link.forget (l : Link) (m : MasterIx) : Link := { l.withdrawNotice m with lastPort := l.lastPort.set m none }

/-- What a write of an item does besides the working copy: a fitted flag is taken by the supervisor (R18), a combine mode hands a layer
change on (R62), a master entry loses its notices (R187). -/
def State.afterWrite (old : Settings) (s : State) : SettingKey → State
  | .fitted p => s.takeFitting p
  | .combine => if s.set.combine = old.combine then s else s.hand .layerLedger
  | .master m => { s with link := s.link.forget m }
  | _ => s

/-- The item may be written in HOLD only (R195, check 4). -/
def SettingKey.holdOnly : SettingKey → Bool
  | .fitted _ | .master _ => true
  | _ => false

/-- An accepted write carried out: an element setting is staged, every other item is written at the event (R195). -/
def State.carryWrite (s : State) (k : SettingKey) (v : Nat) (t : Settings) : State :=
  match k with
  | .elem p g e => s.stage ⟨p, g, e, v⟩
  | k => State.afterWrite s.set { s with set := t } k

/-- SETTING_WRITE after the master match (R195). -/
def State.settingWrite (s : State) (m : MasterIx) (row place : Nat) (index : List Nat) (v : Nat) : Answer × State :=
  if !(s.roleOf m).stationOrMaint then s.answer .role
  else match keyOf row place index with
    | none => s.answer .range
    | some k => match s.set.put k v with
      | none => s.answer .range
      | some t =>
        if k.guardLevel ≤ s.base.guard then s.answer .guard
        else if k.holdOnly && s.modes.mode != .hold then s.answer .hold
        else ({ code := .done }, s.carryWrite k v t)

/-- Every staged protection write put into force at a boundary (R195). -/
def State.adoptStaged (s : State) : State := { s with set := s.set.applyAll s.staged, staged := [] }

/-- The staged value of an element setting. -/
def State.stagedValue (s : State) : SettingKey → Option Nat
  | .elem p g e => (s.staged.find? fun x => x.pos == p && x.grp == g && x.elem == e).map (·.value)
  | _ => none

/-- The data of a SETTING_READ: the value in force, and the staged value when one is staged (log 16). -/
def State.settingData (s : State) (k : SettingKey) : List Byte :=
  be k.width (s.set.get k) ++ (match s.stagedValue k with
    | some v => be k.width v
    | none => [])

/-! ### SAVE (R196) -/

/-- SAVE after the master match (R196). -/
def State.saveRequest (s : State) (m : MasterIx) : Answer × State :=
  if !(s.roleOf m).stationOrMaint then s.answer .role
  else if 3 ≤ s.base.guard then s.answer .guard
  else if s.base.save.isSome then s.answer .busy
  else ({ code := .accepted },
    State.raise { s with base := { s.base with save := some ⟨s.set.applyAll s.staged, some 400⟩ } } .mode)

/-- A save completes: the stored image holds the capture. One in progress at a warm reset completes after the reset (R196). -/
def State.saveComplete (s : State) : State :=
  match s.base.save with
  | none => s
  | some g =>
    if s.base.phase = .running then
      State.raise { s with base := { s.base with image := some g.capture, save := none, settingsInvalid := false } } .mode
    else s

/-! ### The guard level (R197) -/

/-- SET_GUARD after the master match (R197). -/
def State.setGuard (s : State) (m : MasterIx) (level : Nat) : Answer × State :=
  if !(s.roleOf m).station then s.answer .role
  else if 3 < level then s.answer .range
  else if level < s.base.guard then s.answer .guard
  else if level = s.base.guard then s.answer .done
  else ({ code := .done }, State.raise { s with base := { s.base with guard := level } } .mode)

/-! ### Modes (R198, R199) -/

/-- HOLD after the master match (R198). -/
def State.holdRequest (s : State) (m : MasterIx) : Answer × State :=
  if !(s.roleOf m).stationOrMaint then s.answer .role else ({ code := .done }, s.enterHold .request)

/-- RUN after the master match (R199). -/
def State.runRequest (s : State) (m : MasterIx) : Answer × State :=
  if !(s.roleOf m).station then s.answer .role
  else if s.base.stopLine then s.answer .stopActive
  else if s.base.settingsInvalid then s.answer .settingsInvalid
  else if s.modes.mode ≠ .hold then s.answer .done
  else ({ code := .accepted }, State.raise { s with modes := { s.modes with mode := .settle, settle := 0 } } .mode)

/-- The settle count has reached 64: the mode becomes RUN, handed to the scenario logic as a judgement event (R199). -/
def State.settleComplete (s : State) : State :=
  if s.modes.mode = .settle ∧ 64 ≤ s.modes.settle then
    (State.raise { s with modes := { s.modes with mode := .run, settle := 0 } } .mode).hand .runScenarios
  else s

/-- A channel was PRESENT in the last round. -/
def State.presentNow (s : State) (c : Chan) : Bool := s.meas.chans[c].status == .present

/-- The voltage channel a fitted position asks of a complete round: V0 for QA, V1 for QB, V(n+4) for QGn (R199). -/
def settleChan (p : Pos) : Option Chan :=
  match p.val with
  | 0 => some 23
  | 1 => some 24
  | _ => (genOf p).map genChan

/-- The channels of one position that a complete round holds. -/
def State.positionPresent (s : State) (p : Pos) : Bool :=
  !s.fitted p || (s.presentNow (currentChan p) && (match settleChan p with
    | some c => s.presentNow c
    | none => true))

/-- The round is complete (R199). -/
def State.roundComplete (s : State) : Bool :=
  (match s.meas.round with
    | some i => i.byMarker
    | none => false)
    && allPos.all s.positionPresent && s.presentNow 25 && s.presentNow 26 && s.presentNow 27

/-- The operating modes take a delivered round (R199). -/
def State.settleRound (s : State) : State :=
  if s.modes.mode ≠ .settle then s
  else State.settleComplete
    { s with modes := { s.modes with settle := if s.roundComplete then s.modes.settle + 1 else 0 } }

end Sys2Proof.Machine
end

