-- ==== Sys2Proof/Machine/Cascade.lean ====
section
/-! DEFINITION. How what one block hands another is taken: an outcome before the changes of its event are, since its report belongs to the
event that produces it (R14, R141, R163); each other item as an event of its own, one source's items to one receiver in their order,
and otherwise in a free order (R20, R30, R99, R123, R198; log 3, log 4). -/

namespace Sys2Proof.Machine

/-- An item taken by its receiver. -/
def State.handle (s : State) : Handed → State
  | .roundProtection => s.protectionRound
  | .roundMonitor m => s.monitorRound m
  | .roundLedger => s.ledgerRound
  | .roundSettle => s.settleRound
  | .roundStaged => s.adoptStaged
  | .lostProtection c => s.channelLost c
  | .lostMonitor m => s.monitorRound m
  | .feedProtection _ => s.recomputeGroups
  | .feedInterlock c => s.interlockFeeds c
  | .feedMonitors c => s.monitorFeeds c
  | .feedScenarios _ => s.judgeScenarios false
  | .feedLedger c => s.ledgerFeeds c
  | .posLedger p now => s.ledgerPos p now
  | .posRouter p was => s.stopPendingChange p was
  | .outcomeGroup p oc => s.groupOutcome p oc
  | .outcomeEngine p oc => s.engineOutcome p oc
  | .outcomeSync p oc => s.syncOutcome p oc
  | .outcomeLedger p oc closing => s.ledgerOutcome p oc closing
  | .tripEngine p c => s.engineTrip p c
  | .tripLedger p => s.ledgerTrip p
  | .holdAuthority c => s.authorityHold c
  | .holdGroup => s.groupHold
  | .holdEngine c => s.engineHold c
  | .holdSync => s.syncHold
  | .syncEngine p oc => s.engineSync p oc
  | .syncLedger p oc => s.ledgerSync p oc
  | .monitorEngine => s.engineMonitor
  | .monitorScenarios => s.judgeScenarios false
  | .layerLedger => s.ledgerLayer
  | .runScenarios => s.judgeScenarios true

/-- The channel an item travels on: its source and its receiver. Items of one channel keep their order. -/
def Handed.channel : Handed → Nat
  | .roundProtection => 0
  | .roundMonitor .ua => 1
  | .roundMonitor .ub => 2
  | .roundMonitor .gb => 3
  | .roundLedger => 4
  | .roundSettle => 5
  | .roundStaged => 6
  | .feedProtection _ => 7
  | .feedInterlock _ => 8
  | .feedMonitors _ => 9
  | .feedScenarios _ => 10
  | .posLedger _ _ => 11
  | .posRouter _ _ => 12
  | .outcomeGroup _ _ => 13
  | .outcomeEngine _ _ => 14
  | .outcomeSync _ _ => 15
  | .outcomeLedger _ _ _ => 16
  | .tripEngine _ _ => 17
  | .tripLedger _ => 18
  | .holdAuthority _ => 19
  | .holdGroup => 20
  | .holdEngine _ => 21
  | .holdSync => 22
  | .syncEngine _ _ => 23
  | .syncLedger _ _ => 24
  | .monitorEngine => 25
  | .monitorScenarios => 26
  | .layerLedger => 27
  | .runScenarios => 28
  | .feedLedger _ => 29
  | .lostProtection _ => 30
  | .lostMonitor .ua => 31
  | .lostMonitor .ub => 32
  | .lostMonitor .gb => 33

/-- A pulse outcome, or the joining or outcome of a synchronizer entry: its report is part of the event that produces it (R14, R141, R150,
R163). -/
def Handed.isOutcome : Handed → Bool
  | .outcomeGroup _ _ | .outcomeEngine _ _ | .outcomeSync _ _ | .outcomeLedger _ _ _ => true
  | .syncEngine _ _ | .syncLedger _ _ => true
  | _ => false

/-- A trip handed by the router, which may be taken before an outcome of the same request (R144). -/
def Handed.isTrip : Handed → Bool
  | .tripEngine _ _ | .tripLedger _ => true
  | _ => false

/-- The places of the items that are first on their channel. -/
def headsFrom : List Handed → List Nat → Nat → List Nat
  | [], _, _ => []
  | w :: rest, seen, i =>
    if seen.contains w.channel then headsFrom rest seen (i + 1) else i :: headsFrom rest (w.channel :: seen) (i + 1)

/-- The places the next item may be taken from: those first on their channels, and of these only outcomes and trips while an outcome is
left (R14, R141, R144, R163). -/
def nextPlaces (ws : List Handed) : List Nat :=
  let heads := headsFrom ws [] 0
  if ws.any Handed.isOutcome then heads.filter fun i => ws[i]?.any fun w => w.isOutcome || w.isTrip else heads

/-- The next item taken from what has been handed on, freely among the places it may be taken from. -/
def State.takeNext (s : State) : Option (Handed × State) :=
  let places := nextPlaces s.inbox
  let pick := s.choose places.length
  (places[pick.1]?).bind fun i => (s.inbox[i]?).map fun w => (w, { pick.2 with inbox := s.inbox.eraseIdx i })

/-- Everything handed on is taken, and what that hands on in its turn. The number bounds the items of one command (log 4). -/
def State.drain : Nat → State → State
  | 0, s => s
  | n + 1, s =>
    match s.takeNext with
    | none => s
    | some (w, s1) => State.drain n (s1.handle w).settleLock

/-- The end of a command: the lock-word update it asked for, and everything it handed on (R102; log 4, log 5). -/
def State.finish (s : State) : State := s.settleLock.drain 4096

end Sys2Proof.Machine
end

