-- ==== Sys2Proof/Machine/Reset.lean ====
section
/-! DEFINITION. Power-on reset, warm reset and loss of power: the "Values After Reset" of every section (R21, R22, R35, R56, R77, R96,
R116, R131, R149, R165, R182, R191, R200). -/

namespace Sys2Proof.Machine

/-! ### The reset sample (R21, R22, Table 1.11) -/

/-- One position record at the reset sample. -/
def sampledPos (fitted : Bool) (contacts : Bool × Bool) (kept : Feedback) (flags : LockFlags) (stamp : Stamp) : PosRec :=
  let fb := decodeContacts contacts.1 contacts.2
  { state := if fitted then fb.restState else .unfitted
    feedback := if fitted then fb else kept
    tripLocked := flags.locked
    bf := flags.bf
    lastStamp := stamp }

/-- The position table at the reset sample: the flags kept or loaded, the feedback of an unfitted position kept or NONE. -/
def State.sampleTable (s : State) (flags : LockWord) (kept : Vector Feedback 23) : Vector PosRec 23 :=
  Vector.ofFn fun p => sampledPos s.set.pos[p].fitted s.base.contacts[p] kept[p] flags[p] s.base.timeBase

/-- The join records formed afresh from the feed sets: each with the lowest-numbered connecting tie (R77). -/
def State.formJoins (s : State) : Joins :=
  match s.connectingTies.head? with
  | none => {}
  | some p =>
    let r : JoinId → Option JoinRec := fun j => if s.feeds.joined j then some ⟨p, some s.set.overlapTime⟩ else none
    { uaUb := r .uaUb, uaGb := r .uaGb, ubGb := r .ubGb }

/-- The protection unit after reset: the active groups are the computed groups, the forces AUTO (R96); no boundary has read settings yet
(log 31). -/
def State.freshProt (s : State) : Protection :=
  { recs := Vector.ofFn fun p => { active := computedGroup .auto .auto s.feeds p } }

/-- A generator record after reset: a held state and the counts kept at warm reset, every other state judged (R182). -/
def GenRec.afterReset (r : GenRec) (judged : GenState) : GenRec :=
  { state := if r.state.held then r.state else judged
    failures := r.failures, warning := r.warning, lastFailure := r.lastFailure }

/-- The ledger after reset, with the generator records that are kept (R182). -/
def State.freshLedger (s : State) (gens : Vector GenRec 6) : Ledger :=
  { gens := Vector.ofFn fun g => gens[g].afterReset (s.freeGenState g) }

/-- The port with the round timer running or idle (R35). The delivered round is gone: until the first boundary READ sends all ones for
the stamp of the latest boundary, which Table 2.6 does not name (log 10). -/
def freshMeas (timer : Timer) : Meas :=
  { slots := Vector.replicate 34 none, roundTimer := timer, chans := Vector.replicate 34 {}, round := none }

/-- The link controller after reset (R191). -/
def freshLink (number : BitVec 16) (timer : Timer) : Link :=
  { ports := Vector.replicate 2 {}, pendingSets := Vector.replicate 16 0, lastPort := Vector.replicate 16 none
    beaconNumber := number, beaconTimer := timer }

/-- The blocks that start from the reset sample: feed sets, joins, protection, ledger (R21, R22). -/
def State.startFromSample (s : State) (table : Vector PosRec 23) (gens : Vector GenRec 6) : State :=
  let s1 := { s with pos := table, feeds := feedsOf table }
  let s2 := { s1 with inter := { s1.inter with joins := s1.formJoins } }
  { s2 with prot := s2.freshProt, led := s2.freshLedger gens }

/-- The STOP line sampled at the end of a reset: an asserted line is taken as an assertion (R111). R200 raises no MODE notice
for the reset value, R198 raises one at every change of the cause: that the change of the cause to STOP here raises it is the model's
reading (log 45). -/
def State.sampleStop (s : State) : State := if s.base.stopLine then s.doStop else s

/-! ### Power -/

/-- Loss of power: the volatile state is gone; a save in progress leaves the stored image failing its check, and a lock-word program in
progress leaves the lock word as the last completed one left it (R102, R196). The lines keep their levels. -/
def State.losePower (s : State) : State :=
  { State.reset with
    base :=
      { phase := .off, contacts := s.base.contacts, stopLine := s.base.stopLine, straps := s.base.straps, node := 0, timeBase := 0
        image := if s.base.save.isSome then none else s.base.image
        lockWord := s.base.lockWord, save := none, settingsInvalid := false, guard := 0 }
    choices := s.choices, choiceCount := s.choiceCount, pending := s.pending }

/-- The hold cause after power-on (R200). -/
def powerOnCause (invalid : Bool) : HoldCause := if invalid then .settingsInvalid else .powerOn

/-- A part whose power has just come on (Table 1.11, Table 4.13, Table 5.9, Table 6.10, Table 12.7 and the others, power-on
columns). -/
def State.powerUp (s : State) : State :=
  let set := s.base.image.getD Settings.builtIn
  let invalid := s.base.image.isNone
  let s1 := { State.reset with
    base := { s.base with
      phase := .running, node := s.base.straps, timeBase := 0, save := none, settingsInvalid := invalid, guard := set.initialGuard }
    set := set
    modes := { cause := powerOnCause invalid }
    src := { auto := set.autoDefault }
    choices := s.choices, choiceCount := s.choiceCount, pending := s.pending }
  (s1.startFromSample (s1.sampleTable s.base.lockWord (Vector.replicate 23 .absent)) (Vector.replicate 6 {})).sampleStop

/-- Power-on reset; of a part that has power, loss of power first (R21; log 9). -/
def State.powerOnReset (s : State) : State := if s.base.phase = .off then s.powerUp else s.losePower.powerUp

/-! ### Warm reset -/

/-- A layer after warm reset: the committed copy and the counter kept, the staging copy gone (Table 4.13). -/
def Layer.warm (l : Layer) : Layer := { l with staging := none }

/-- A fault record at warm reset: OPEN becomes RESET_LOST (R116). -/
def FaultRec.warm (r : FaultRec) : FaultRec := if r.outcome = .opened then { r with outcome := .resetLost } else r

/-- The trip router at warm reset (Table 6.10). -/
def Router.warm (t : Router) : Router :=
  { t with active := Vector.replicate 23 none, stopPending := [], ring := t.ring.map FaultRec.warm }

/-- The result record at warm reset: RESET when a plan was in progress (R149). -/
def Engine.warmResult (e : Engine) : Option ResultRec :=
  if e.state = .idle then e.result else e.result.map fun r => { r with outcome := some .reset }

/-- The sample of a warm reset: flags kept, the feedback of an unfitted position kept (Table 1.11). -/
def State.warmSample (s : State) : State :=
  s.startFromSample (s.sampleTable s.lockFlags (s.pos.map PosRec.feedback)) s.led.gens

/-- WRST asserted: every block takes its warm reset (R200; log 10). The timers that start at the end of the reset are idle. -/
def State.warmReset (s : State) : State :=
  if s.base.phase ≠ .running then s
  else
    State.warmSample
      { s with
        base := { s.base with phase := .warmReset }
        modes := { cause := .warmReset }
        meas := freshMeas none
        auth := { permits := Vector.replicate 23 none, waits := [], news := Vector.replicate 16 {} }
        inter := { layerA := s.inter.layerA.warm, layerB := s.inter.layerB.warm }
        router := s.router.warm
        src := { auto := s.src.auto }
        eng := { result := s.eng.warmResult }
        sync := {}
        link := freshLink s.link.beaconNumber none
        lockAsk := false
        inbox := [] }

/-- WRST released: the end of the warm reset. The contacts are sampled, the straps read, the round and beacon timers start, and the
STOP line is sampled (R22, R35, R111, R183, R191). -/
def State.warmResetEnd (s : State) : State :=
  if s.base.phase ≠ .warmReset then s
  else
    (State.warmSample
      { s with
        base := { s.base with phase := .running, node := s.base.straps }
        meas := freshMeas (some 25)
        link := freshLink s.link.beaconNumber (some 100) }).sampleStop

/-! ### Lines -/

/-- The STOP line asserted (R109). An assertion that finds the line asserted is no new stop. -/
def State.stopAsserted (s : State) : State :=
  let s1 := { s with base := { s.base with stopLine := true } }
  if s.base.phase = .running ∧ s.base.stopLine = false then s1.doStop else s1

/-- The STOP line released (R111). -/
def State.stopReleased (s : State) : State := { s with base := { s.base with stopLine := false } }

end Sys2Proof.Machine
end

