-- ==== Sys2Proof/Machine/Records.lean ====
section
/-! DEFINITION. The records a master reads: the readouts of READ (Table 11.5), RECORD_READ (Table 11.12), LAYER_READ, PLAN_READ and
SETTING_READ, and the parts they are answered in (R184, R190, R193; log 16, log 28). -/

namespace Sys2Proof.Machine

/-- One part of a readout; a part number at or above the number of parts is answered RANGE (R184). An empty readout has one part (log 44). -/
def readPart (data : List Byte) (part : Nat) : Answer :=
  let n := max 1 ((data.length + 7) / 8)
  if n ≤ part then { code := .range } else { code := .done, data := (data.drop (8 * part)).take 8, part := part, parts := n }

/-- A list of entries: their number in one byte, then the entries (R193). -/
def listBytes {α : Type} (f : α → List Byte) (xs : List α) : List Byte := byte1 xs.length ++ (xs.map f).flatten

/-- A value of one byte that may be absent. -/
def optByte (v : Option Nat) : List Byte := optBytes 1 v

/-- A stamp in four bytes. -/
def stampBytes (t : Option Stamp) : List Byte := optBytes 4 (t.map BitVec.toNat)

/-- A set of sources in one byte (R193). -/
def sourceByte (x : SourceSet) : List Byte := byte1 x.code

/-! ### Codes: the place in the list that defines the value (R193) -/

/-- The role of a position (Table 1.1). -/
def posRole (p : Pos) : Nat :=
  match p.val with
  | 0 | 1 => 0
  | 2 => 1
  | 3 | 4 => 2
  | _ => if isGenBreaker p then 3 else 4

/-- Decoded feedback (Table 1.1). -/
def Feedback.code : Feedback → Nat
  | .closed => 0
  | .opened => 1
  | .travelling => 2
  | .discrepancy => 3
  | .absent => 4

/-- Pulse origins (Table 1.1). -/
def Origin.code : Origin → Nat
  | .master => 0
  | .group => 1
  | .engine => 2
  | .sync => 3
  | .ledger => 4
  | .trip => 5

/-- Pulse outcomes (Table 1.8). -/
def PulseOutcome.code : PulseOutcome → Nat
  | .closedDone => 0
  | .openedDone => 1
  | .closeFail => 2
  | .openFail => 3
  | .takenByTrip => 4
  | .bfExpired => 5

/-- Change kinds (Table 1.2). -/
def ChangeKind.code : ChangeKind → Nat
  | .commanded => 0
  | .uncommandedOpen => 1
  | .uncommandedClose => 2
  | .travelFault => 3
  | .discrepancy => 4
  | .openFail => 5
  | .recovered => 6
  | .fitting => 7
  | .reset => 8

/-- Channel status (Table 2.3). -/
def ChanStatus.code : ChanStatus → Nat
  | .notYetSeen => 0
  | .present => 1
  | .absent => 2
  | .measLost => 3

/-- Groups. -/
def Grp.code : Grp → Nat
  | .g1 => 0
  | .g2 => 1

/-- Forces (Table 5.6). -/
def Force.code : Force → Nat
  | .g1 => 0
  | .g2 => 1
  | .auto => 2

/-- Monitor states (R117). -/
def MonState.code : MonState → Nat
  | .dead => 0
  | .unstable => 1
  | .healthy => 2
  | .failing => 3
  | .lost => 4

/-- Generator failure events (Table 10.1, NONE first). -/
def GenFailure.code : GenFailure → Nat
  | .syncFail => 1
  | .closeFail => 2
  | .reversePower => 3

/-- News outcomes (Table 3.9). -/
def NewsOutcome.code : NewsOutcome → Nat
  | .granted => 0
  | .expired => 1
  | .timedOut => 2
  | .revoked => 3
  | .waitCancelled => 4

/-- News causes (Table 3.9). -/
def NewsCause.code : NewsCause → Nat
  | .engineStart => 0
  | .stop => 1
  | .hold => 2

/-- Permit kinds (Table 3.3). -/
def PermitKind.code : PermitKind → Nat
  | .operate => 0
  | .maintenance => 1

/-- Group phases (Table 4.12). -/
def GroupPhase.code : GroupPhase → Nat
  | .idle => 0
  | .opening => 1
  | .deadTime => 2
  | .closing => 3

/-- Step phases (Table 8.2). -/
def StepPhase.code : StepPhase → Nat
  | .waitingToIssue => 0
  | .issued => 1
  | .waiting => 2
  | .halted => 3

/-- Scenarios (Table 7.7). -/
def Scenario.code : Scenario → Nat
  | .lossBoth => 0
  | .lossA => 1
  | .lossB => 2
  | .returnA => 3
  | .returnB => 4

/-- Reasons of a scenario not started (R135, R136); no table lists them, so the model numbers them (log 16). -/
def NotStarted.code : NotStarted → Nat
  | .incomplete => 0
  | .maint => 1
  | .outranked => 2
  | .noLongerStands => 3

/-- Classes of a synchronizer entry (Table 9.1). -/
def SyncClass.code : SyncClass → Nat
  | .engine => 0
  | .generator => 1
  | .master => 2

/-- Synchronizing modes (Table 9.1). -/
def SyncMode.code : SyncMode → Nat
  | .auto => 0
  | .stepped => 1

/-! ### Channel, position, bus, source and generator records -/

/-- The last values of a channel, all ones when absent; the fields are those of the channel's kind (Table 2.1). -/
def lastValues (c : Chan) (v : Option Values) : List Byte :=
  if 23 ≤ c.val then optBytes 2 (v.bind Values.volt) ++ optBytes 2 (v.bind Values.freq)
  else
    optBytes 2 (v.map Values.phase) ++ optBytes 2 (v.map Values.ground)
      ++ (if isGenBreaker ⟨c.val % 23, by omega⟩ then
            optByte (v.map fun x => flagCode x.reverse) ++ optBytes 2 (v.map Values.power)
          else [])

/-- A channel record, with the stamp of the latest boundary behind it (R32). -/
def State.chanBytes (s : State) (c : Chan) : List Byte :=
  let r := s.meas.chans[c]
  byte1 r.status.code ++ byte1 r.absence ++ lastValues c (r.last.map (·.1)) ++ stampBytes (r.last.map (·.2))
    ++ stampBytes (s.meas.round.map (·.stamp))

/-- The position record (Table 1.1). A last outcome NONE is sent as all ones, in both its bytes, where no rule gives its code (log 55). -/
def State.positionRecord (s : State) (p : Pos) : List Byte :=
  let r := s.pos[p]
  byte1 (posRole p) ++ flagByte s.set.pos[p].fitted ++ byte1 r.state.code ++ byte1 r.feedback.code ++ flagByte r.tripLocked
    ++ flagByte r.bf ++ flagByte r.shed ++ optByte (r.origin.map Origin.code) ++ optByte (r.requester.map (·.val))
    ++ optByte (r.lastOutcome.map fun x => x.1.code) ++ optByte (r.lastOutcome.map fun x => x.2.code)
    ++ byte1 r.lastKind.code ++ stampBytes (some r.lastStamp)

/-- One element record; `k` bytes of count. -/
def ElemRec.bytes (x : ElemRec) (k : Nat) : List Byte := flagByte x.pickup ++ flagByte x.operated ++ be k x.count

/-- The protection state of a position (R95). -/
def State.protectionRecord (s : State) (p : Pos) : List Byte :=
  let r := s.prot.recs[p]
  byte1 r.active.code ++ optByte (r.due.map Grp.code) ++ r.inst.bytes 1 ++ r.time.bytes 2 ++ r.ground.bytes 2
    ++ (if isGenBreaker p then r.rev.bytes 2 else []) ++ (if p.val ≤ 4 then flagByte r.blockInput else []) ++ flagByte r.frozen

/-- READ of POSITION. -/
def State.readPosition (s : State) (p : Pos) : List Byte :=
  s.positionRecord p ++ s.protectionRecord p ++ s.chanBytes (currentChan p)

/-- A section block: RAISED 0 or CLEAR 1, then the hold count (R87). -/
def SecBlock.bytes (k : SecBlock) : List Byte := byte1 (if k.raised then 0 else 1) ++ byte1 k.hold

/-- READ of BUS. -/
def State.readBus (s : State) (bus : Bus) : List Byte :=
  sourceByte (s.feeds.get bus) ++ s.chanBytes (busChan bus) ++ (match bus with
    | .a => s.prot.blockA.bytes ++ byte1 s.prot.forceA.code
    | .b => s.prot.blockB.bytes ++ byte1 s.prot.forceB.code
    | .n => [])

/-- A held timer: idle 0, running 1, suspended 2, then the time remaining (R117; the codes are the model's, log 16). -/
def HeldTimer.bytes : HeldTimer → List Byte
  | .idle => byte1 0 ++ optBytes 2 none
  | .running t => byte1 1 ++ be 2 t
  | .held t => byte1 2 ++ be 2 t

/-- READ of SOURCE (R123). That the conditions are the flags kept since the last judgement event (R124, R125), and not judged afresh at the
read, is the model's choice (log 53). -/
def State.readSource (s : State) (m : Source) : List Byte :=
  let r := s.src.get m
  byte1 r.state.code ++ be 3 r.count ++ be 2 (s.set.returnStab.get m) ++ r.loss.bytes ++ s.chanBytes (monitorChan m)
    ++ flagByte s.src.auto ++ (scenarioOrder.map fun c => flagByte (s.src.flags.get c)).flatten

/-- READ of GENERATOR (Table 10.1). -/
def State.readGenerator (s : State) (g : GenIx) : List Byte :=
  let r := s.led.gens[g]
  byte1 r.state.code ++ be 2 s.set.ratings[g] ++ byte1 r.failures ++ flagByte r.warning
    ++ byte1 ((r.lastFailure.map GenFailure.code).getD 0) ++ byte1 r.readmit ++ flagByte r.openBlocked ++ s.chanBytes (genChan g)

/-! ### Permits and news (R54) -/

/-- A permit record: position, holder, kind and lease; all ones after the position when free. -/
def permitBytes (p : Pos) : Option Permit → List Byte
  | none => posByte p ++ optByte none ++ optByte none ++ optBytes 3 none
  | some (.operate m lease) => posByte p ++ byte1 m.val ++ byte1 0 ++ optBytes 3 lease
  | some (.maintenance m) => posByte p ++ byte1 m.val ++ byte1 1 ++ optBytes 3 none
  | some .engine => posByte p ++ byte1 255 ++ byte1 2 ++ optBytes 3 none

/-- A wait list entry (Table 3.6). -/
def WaitEntry.bytes (e : WaitEntry) : List Byte :=
  byte1 e.requester.val ++ maskBytes e.mask ++ byte1 e.kind.code ++ optBytes 2 e.wait

/-- The kind of a news entry, or, when it names both kinds, the list of the kinds of its positions in position order, with the byte
that gives their number (Table 3.9, R193; log 16). -/
def News.kinds (n : News) : List Byte :=
  if n.operate = 0 then byte1 1
  else if n.maintenance = 0 then byte1 0
  else listBytes (fun (p : Pos) => byte1 (if n.operate.getLsbD p.val then 0 else 1)) (posMembers (n.operate ||| n.maintenance))

/-- A news entry: outcome, mask, kind, cause and news number (Table 3.9). -/
def News.bytes (n : News) : List Byte :=
  byte1 n.outcome.code ++ maskBytes (n.operate ||| n.maintenance) ++ n.kinds ++ optByte (n.cause.map NewsCause.code)
    ++ byte1 n.number.toNat

/-- READ of PERMIT_NEWS: the list, then the counter. -/
def NewsBox.bytes (b : NewsBox) : List Byte := listBytes News.bytes b.list ++ byte1 b.counter.toNat

/-! ### Group, engine, synchronizer, ledger, link -/

/-- The result of a group entry and what it carries (Table 4.12). -/
def GroupResult.bytes : GroupResult → List Byte
  | .pending => byte1 0 ++ optByte none
  | .issued => byte1 1 ++ optByte none
  | .done => byte1 2 ++ optByte none
  | .failed oc => byte1 3 ++ byte1 oc.code
  | .skipped r => byte1 4 ++ byte1 r.code
  | .cancelled => byte1 5 ++ optByte none

/-- READ of GROUP (Table 4.12). -/
def Group.bytes (g : Group) : List Byte :=
  optByte (g.requester.map (·.val)) ++ byte1 g.phase.code
    ++ listBytes (fun (e : GroupEntry) => posByte e.pos ++ flagByte e.close ++ e.result.bytes) g.list

/-- The step timer: the time remaining, and whether it is frozen (R148). -/
def stepTimerBytes : HeldTimer → List Byte
  | .idle => optBytes 2 none ++ flagByte false
  | .running t => be 2 t ++ flagByte false
  | .held t => be 2 t ++ flagByte true

/-- READ of ENGINE_STATE (R148), the pending scenario followed by its urgency (R132; log 16); each is all ones when there is none, as is the last
scenario not started (log 55). -/
def Engine.stateBytes (e : Engine) : List Byte :=
  byte1 e.state.code ++ optByte (e.run.map (·.slot.val)) ++ optBytes 3 (e.run.map (·.set.toNat)) ++ optByte (e.run.map (·.step.val))
    ++ optByte (e.run.map (·.phase.code)) ++ stepTimerBytes e.stepTimer ++ optBytes 2 e.marks.a ++ optBytes 2 e.marks.b
    ++ optBytes 2 e.marks.n ++ optByte (e.pendingSc.map Scenario.code) ++ optByte (e.pendingSc.map Scenario.urgency)
    ++ optByte (e.lastNot.map fun x => x.1.code) ++ optByte (e.lastNot.map fun x => x.2.code)

/-- A start cause: 0 and a scenario, or 1 and a master index (R133; the byte that tells them apart is the model's, log 16). -/
def StartCause.bytes : StartCause → List Byte
  | .scenario c => byte1 0 ++ byte1 c.code
  | .master m => byte1 1 ++ byte1 m.val

/-- A failure reason, in the order of Table 8.3, and the code it carries. -/
def FailReason.bytes : FailReason → List Byte
  | .refusal r => byte1 0 ++ byte1 r.code
  | .openFail => byte1 1 ++ optByte none
  | .closeFail => byte1 2 ++ optByte none
  | .timeout => byte1 3 ++ optByte none
  | .sync oc => byte1 4 ++ byte1 oc.code

/-- An abandon reason, in the order of Table 8.3, and the master it names. -/
def AbandonReason.bytes : AbandonReason → List Byte
  | .request m => byte1 0 ++ byte1 m.val
  | .hold => byte1 1 ++ optByte none
  | .stop => byte1 2 ++ optByte none
  | .secondFailure => byte1 3 ++ optByte none

/-- Outcome, failure and abandon reason (Table 8.3); the absent ones all ones. -/
def outcomeBytes : Option PlanOutcome → List Byte
  | none => optBytes 1 none ++ optBytes 3 none ++ optBytes 2 none
  | some .completed => byte1 0 ++ optBytes 3 none ++ optBytes 2 none
  | some (.failed step why) => byte1 1 ++ byte1 step.val ++ why.bytes ++ optBytes 2 none
  | some (.abandoned why) => byte1 2 ++ optBytes 3 none ++ why.bytes
  | some .reset => byte1 3 ++ optBytes 3 none ++ optBytes 2 none

/-- READ of ENGINE_RESULT (Table 8.3). -/
def ResultRec.bytes (r : ResultRec) : List Byte :=
  byte1 r.slot.val ++ r.cause.bytes ++ maskBytes r.set ++ byte1 r.step.val
    ++ listBytes (fun (t : Pos × TripCause) => posByte t.1 ++ byte1 t.2.code) r.trips ++ outcomeBytes r.outcome

/-- A synchronizer entry (Table 9.1). Its arrival is its place in the list and has no byte (log 16). -/
def SyncEntry.bytes (e : SyncEntry) : List Byte :=
  posByte e.pos ++ byte1 e.cls.code ++ optByte (e.requester.map (·.val)) ++ byte1 e.mode.code

/-- The detail of an outcome: 0 and a refusal, 1 and a pulse outcome, a tag of the model's (log 16). -/
def detailBytes : Option SyncDetail → List Byte
  | none => optBytes 2 none
  | some (.refusal r) => byte1 0 ++ byte1 r.code
  | some (.pulse oc) => byte1 1 ++ byte1 oc.code

/-- An outcome list entry (R164). -/
def SyncNews.bytes (n : SyncNews) : List Byte :=
  byte1 n.number.toNat ++ n.entry.bytes ++ byte1 n.outcome.code ++ detailBytes n.detail ++ stampBytes (some n.stamp)

/-- A count of the attempt, absent while no target stands (Table 9.10, R190). -/
def Sync.countBytes (y : Sync) (n k : Nat) : List Byte := optBytes k (y.target.map fun _ => n)

/-- The time remaining of a timer whose length is given in seconds, in whole seconds (R193); that a part of a second left over is dropped is
the model's choice (log 54). -/
def wholeSeconds (t : Timer) : Option Nat := t.map (· / 1000)

/-- READ of SYNC (R164). No rule gives the measurement count, the slip or the advance angle a range: that they take two, two and three
bytes, the last two as in the capture, is the model's choice (log 16), as is the voltage difference of the latest measurement
(log 38). While no target stands the two counts are absent (Table 9.10). The attempt timer is sent in whole seconds, as the timeout of
Table 9.2 is given (R193). -/
def Sync.bytes (y : Sync) : List Byte :=
  let a := y.att
  byte1 y.state.code ++ ((y.target.map SyncEntry.bytes).getD (optBytes 4 none)) ++ y.countBytes a.measCount 2
    ++ y.countBytes a.confirm 1 ++ signedBytes 2 (a.meas.map (·.theta)) ++ signedBytes 2 (a.meas.bind (·.dphi))
    ++ signedBytes 3 (a.meas.bind (·.advance)) ++ signedBytes 2 (a.meas.bind (·.slip)) ++ signedBytes 2 (a.meas.bind (·.vdiff)) ++ flagByte a.live ++ flagByte a.seen
    ++ ((a.capture.map Capture.bytes).getD (optBytes 13 none)) ++ optBytes 2 (wholeSeconds a.attemptTimer)
    ++ flagByte a.outs.speedRaise.isSome ++ flagByte a.outs.speedLower.isSome ++ flagByte a.outs.voltRaise.isSome
    ++ flagByte a.outs.voltLower.isSome ++ listBytes SyncEntry.bytes y.waits ++ listBytes SyncNews.bytes y.outcomes
    ++ byte1 y.counter.toNat

/-- The last ledger event with its feeder and the check failed (R181). No list defines the codes of the events: the model numbers them in
the order R175 and R179 name them (log 16), and sends all ones for NONE (log 55). -/
def ledgerEventBytes : Option LedgerEvent → List Byte
  | none => optBytes 3 none
  | some .overloadUnresolved => byte1 0 ++ optBytes 2 none
  | some (.restoreBlocked p k) => byte1 1 ++ posByte p ++ byte1 k
  | some (.restoreIssued p) => byte1 2 ++ posByte p ++ optByte none
  | some (.restoreFailed p) => byte1 3 ++ posByte p ++ optByte none

/-- READ of LEDGER (R181), in the widths of R174 and R177. That the candidate is the one kept at the latest boundary in RUN is the model's
choice (log 49). -/
def State.readLedger (s : State) : List Byte :=
  be 3 s.capacity ++ be 3 s.genLoad ++ signedBytes 3 (some s.headroom)
    ++ listBytes (fun (p : Pos) => posByte p ++ be 2 s.set.pos[p].demand) s.led.stack.reverse ++ maskBytes (maskOf s.led.shedFailed)
    ++ flagByte s.led.unresolved ++ flagByte s.led.paused ++ be 2 s.led.fitCount ++ optByte (s.led.candidate.map (·.val))
    ++ optBytes 2 s.led.spacing ++ ledgerEventBytes s.led.lastEvent

/-- READ of LINK (Table 11.5). -/
def PortRec.bytes (r : PortRec) : List Byte :=
  byte1 r.state.code ++ byte1 r.rx ++ byte1 r.tx ++ byte1 r.replies.length ++ flagByte r.dropped

/-! ### READ (R190) -/

/-- The record of an item that has no index, or the wait list entry standing at a place. -/
def foundOr (d : Option (List Byte)) : Except Result (List Byte) :=
  match d with
  | some x => .ok x
  | none => .error .notFound

/-- The record of an index in range, RANGE otherwise. -/
def inTable (d : Option (List Byte)) : Except Result (List Byte) :=
  match d with
  | some x => .ok x
  | none => .error .range

/-- The record READ names, by the place of the item in Table 11.5 (R190, R193). The index of an item that has none there is not looked at
(log 17). -/
def State.readItem (s : State) (item index : Nat) : Except Result (List Byte) :=
  match item with
  | 0 => inTable ((posOf index).map s.readPosition)
  | 1 => inTable ((busOf index).map s.readBus)
  | 2 => inTable ((sourceOf index).map s.readSource)
  | 3 => inTable ((genIxOf index).map s.readGenerator)
  | 4 => inTable ((posOf index).map fun p => permitBytes p s.auth.permits[p])
  | 5 => if 15 < index then .error .range else foundOr (s.auth.waits[index]?.map WaitEntry.bytes)
  | 6 => inTable ((finOf 16 index).map fun m => s.auth.news[m].bytes)
  | 7 => .ok s.inter.group.bytes
  | 8 => .ok s.eng.stateBytes
  | 9 => foundOr (s.eng.result.map ResultRec.bytes)
  | 10 => .ok s.sync.bytes
  | 11 => .ok s.readLedger
  | 12 => inTable ((finOf 2 index).map fun (i : PortIx) => s.link.ports[i].bytes)
  | _ => .error .range

/-- READ after the master match (R190). -/
def State.readRecord (s : State) (item index part : Nat) : Answer :=
  match s.readItem item index with
  | .ok d => readPart d part
  | .error r => { code := r }

/-! ### RECORD_READ (R114, Table 11.12) -/

/-- The code of a fault outcome. -/
def FaultOutcome.code : FaultOutcome → Nat
  | .opened => 0
  | .cleared _ => 1
  | .backup _ => 2
  | .backupFailed _ => 3
  | .resetLost => 4

/-- The clearing time, when CLEARED. -/
def FaultOutcome.clearing : FaultOutcome → Option Nat
  | .cleared t => some t
  | _ => none

/-- The backup list, when BACKUP or BACKUP_FAILED. -/
def FaultOutcome.backups : FaultOutcome → List Pos
  | .backup ps => ps
  | .backupFailed ps => ps
  | _ => []

/-- Byte 10: group, outcome, parent present, feed set. -/
def FaultRec.byte10 (r : FaultRec) : Nat := r.grp.code * 128 + r.outcome.code * 16 + flagCode r.parent.isSome * 8 + r.feed.code

/-- Bytes 0 to 23 of a fault record readout. -/
def FaultRec.bytes (r : FaultRec) : List Byte :=
  be 2 r.seq.toNat ++ stampBytes (some r.stamp) ++ posByte r.pos ++ byte1 r.cause.code ++ optBytes 2 r.value ++ byte1 r.byte10
    ++ byte1 r.secondary.length ++ optBytes 2 (r.parent.map BitVec.toNat)
    ++ optByte (r.secondary[0]?.map TripCause.code) ++ optByte (r.secondary[1]?.map TripCause.code)
    ++ optByte (r.secondary[2]?.map TripCause.code) ++ optBytes 2 r.outcome.clearing
    ++ be 2 (maskOf r.outcome.backups).toNat ++ be 3 0

/-- Bytes 24 to 29: the ring status (R114). -/
def Router.status (t : Router) : List Byte :=
  byte1 t.ring.length ++ optBytes 2 (t.ring.head?.map fun r => r.seq.toNat) ++ be 2 t.nextSeq.toNat
    ++ byte1 (flagCode t.overrun * 4 + flagCode t.prog.isSome * 2 + flagCode t.progPending)

/-- RECORD_READ after the master match (R114). A NOT_FOUND reply is a single part whatever part was asked for. -/
def State.recordRead (s : State) (offset part : Nat) : Answer :=
  if 31 < offset then { code := .range }
  else match s.router.ring[offset]? with
    | some r => readPart (r.bytes ++ s.router.status) part
    | none => { code := .notFound, data := s.router.status }

/-- RECORD_RELEASE after the master match (R115). -/
def State.releaseRecord (s : State) (m : MasterIx) (seq : Nat) : Answer × State :=
  if s.roleOf m = .view then s.answer .role
  else
    let r := s.recordRelease seq
    ({ code := r.1 }, r.2)

/-! ### LAYER_READ, PLAN_READ, SETTING_READ -/

/-- The entries of consecutive positions as a list: their number, then close and open of each position, one byte each (R60, R193;
log 16). -/
def LayerCopy.bytes (c : LayerCopy) (first count : Nat) : List Byte :=
  listBytes (fun (p : Pos) => byte1 c.close[p].code ++ byte1 c.opn[p].code) ((List.range count).filterMap fun i => posOf (first + i))

/-- The copy LAYER_READ names: 0 COMMITTED, 1 STAGING. -/
def Layer.copyOf (l : Layer) : Nat → Except Result LayerCopy
  | 0 => .ok l.committed
  | 1 => match l.staging with
    | some c => .ok c
    | none => .error .notFound
  | _ => .error .range

/-- LAYER_READ after the master match (R60). -/
def State.layerRead (s : State) (layer copy first count part : Nat) : Answer :=
  match secOf layer with
  | none => { code := .range }
  | some x =>
    if count = 0 ∨ 23 < first + count then { code := .range }
    else
      let l := s.inter.layer x
      match l.copyOf copy with
      | .error r => { code := r }
      | .ok c => readPart (c.bytes first count ++ flagByte l.staging.isSome ++ byte1 l.commits.toNat) part

/-- The cells of a slot from an index on as a list, wrapping after cell 15 (R130, R193, Table 11.11). -/
def Plan.cells (p : Plan) (start : CellIx) (count : Nat) : List Byte :=
  listBytes (fun i => be 3 (cellValue p[(start.val + i) % 16]!)) (List.range count)

/-- PLAN_READ after the master match (R130). A slot that is not runnable has no position set. -/
def State.planRead (s : State) (slot start count part : Nat) : Answer :=
  match finOf 8 slot, finOf 16 start with
  | some sl, some st =>
    if count = 0 ∨ 16 < count then { code := .range }
    else
      let p := s.set.plans[sl]
      readPart (Plan.cells p st count ++ flagByte (Plan.runnable p)
        ++ optBytes 3 (if Plan.runnable p then some (Plan.posSet p).toNat else none)) part
  | _, _ => { code := .range }

/-- SETTING_READ after the master match (R195). -/
def State.settingRead (s : State) (row place : Nat) (index : List Nat) (part : Nat) : Answer :=
  match keyOf row place index with
  | none => { code := .range }
  | some k => readPart (s.settingData k) part

end Sys2Proof.Machine
end

