-- ==== Sys2Proof/Machine/Link.lean ====
section
/-! DEFINITION. The station link controller (Section 11): ports and their counts, offering and sending frames, notices, beacons, and the
reply to a request. -/

namespace Sys2Proof.Machine

/-- One port changed. -/
def State.updPort (s : State) (i : PortIx) (f : PortRec → PortRec) : State :=
  { s with link := { s.link with ports := s.link.ports.set i (f s.link.ports[i]) } }

/-- The part transmits: it runs, and its node number is not 31 (R183). -/
def State.linkUp (s : State) : Bool := s.base.phase == .running && s.base.node != 31

/-! ### Counts and states (R186) -/

/-- A port judged after a change of its counts. On entry to SILENT its replies, beacon frames and kept frame are dropped (R185). -/
def PortRec.judge (r : PortRec) : PortRec :=
  if r.silent then { r with silent := r.tx != 0 }
  else if 128 ≤ r.tx then { r with silent := true, replies := [], beacons := [], kept := none, sending := none }
  else r

/-- The counts after a bad frame (R186). -/
def PortRec.bad (r : PortRec) : PortRec := { r with rx := min 255 (r.rx + 1) }.judge

/-- The counts after a good frame: the transmit count falls only while SILENT (R186). -/
def PortRec.good (r : PortRec) : PortRec := { r with rx := r.rx - 1, tx := if r.silent then r.tx - 1 else r.tx }.judge

/-! ### Frames to offer (R183, R187) -/

/-- The port a master's NOTICE frame is offered on: the last-used port, SL0 when there is none, the other if that is SILENT, and none
while both are (R187). -/
def Link.noticePort (l : Link) (m : MasterIx) : Option PortIx :=
  let first : PortIx := l.lastPort[m].getD 0
  let second : PortIx := if first = 0 then 1 else 0
  if l.ports[first].silent = false then some first
  else if l.ports[second].silent = false then some second
  else none

/-- The master's NOTICE frame is being sent on a port. -/
def Link.noticeSending (l : Link) (m : MasterIx) : Bool :=
  l.ports.toList.any fun r => r.sending.any fun f => f.source == .notice m

/-- The NOTICE frames due on a port, in order of forming. -/
def Link.noticesOn (l : Link) (i : PortIx) : List MasterIx :=
  l.noticeDue.filter fun m => l.noticePort m == some i && !l.noticeSending m

/-- The NOTICE frame of a master as it is offered: the pending set as it stands (R187). -/
def State.noticeFrame (s : State) (m : MasterIx) : OutFrame :=
  { source := .notice m
    priority := if urgentSet s.link.pendingSets[m] then 0 else 2
    receiver := match s.set.masters[m].node with
      | some n => n.val
      | none => 31
    kind := 2, ident := 0, tag := none
    payload := be 2 s.link.pendingSets[m].toNat }

/-- A reply as it is offered. -/
def Reply.frame (r : Reply) : OutFrame :=
  { source := .reply, priority := 1, receiver := r.receiver, kind := 1, ident := r.ident, tag := some r.tag, payload := r.payload }

/-- A beacon frame as it is offered. -/
def BeaconFrame.frame (b : BeaconFrame) : OutFrame :=
  { source := .beacon b, priority := 3, receiver := 31, kind := 3, ident := b.ix, tag := none, payload := b.payload }

/-- A kept frame formed again, while its source still holds it (R183). -/
def State.keptFrame (s : State) (i : PortIx) : Option OutFrame :=
  match s.link.ports[i].kept with
  | some .reply => s.link.ports[i].replies.head?.map Reply.frame
  | some (.notice m) => if m ∈ s.link.noticesOn i then some (s.noticeFrame m) else none
  | some (.beacon b) => if b ∈ s.link.ports[i].beacons then some b.frame else none
  | some .withdrawn => none
  | none => none

/-- The first non-empty source of a port (R183). -/
def State.sourceFrame (s : State) (i : PortIx) : Option OutFrame :=
  let due := s.link.noticesOn i
  ((((due.find? fun m => urgentSet s.link.pendingSets[m]).map s.noticeFrame).or
    (s.link.ports[i].replies.head?.map Reply.frame)).or
    (due.head?.map s.noticeFrame)).or
    (s.link.ports[i].beacons.head?.map BeaconFrame.frame)

/-- The frame a port offers on an idle link: the kept one, or the first of the list (R183). -/
def State.offerFrame (s : State) (i : PortIx) : Option OutFrame := (s.keptFrame i).or (s.sourceFrame i)

/-- The link goes idle and the port offers one frame (R183). -/
def State.linkIdle (s : State) (i : PortIx) : State :=
  if !s.linkUp || s.link.ports[i].silent || s.link.ports[i].sending.isSome then s
  else match s.offerFrame i with
    | none => s
    | some f => s.updPort i fun r => { r with sending := some f, kept := none }

/-- Arbitration lost: the frame stays first to be offered (R183). -/
def State.arbitrationLost (s : State) (i : PortIx) : State :=
  match s.link.ports[i].sending with
  | none => s
  | some f => s.updPort i fun r => { r with sending := none, kept := if f.source = .withdrawn then none else some f.source }

/-- A sent or given-up frame leaves its source (R183). -/
def State.leaveSource (s : State) (i : PortIx) (f : OutFrame) : State :=
  match f.source with
  | .reply => s.updPort i fun r => { r with replies := r.replies.drop 1 }
  | .notice m => { s with link := { s.link with noticeDue := s.link.noticeDue.filter (· ≠ m) } }
  | .beacon b => s.updPort i fun r => { r with beacons := r.beacons.filter (· ≠ b) }
  | .withdrawn => s

/-- A transmit error: the frame is given up and the transmit count rises by 8 (R183, R186). -/
def State.transmitError (s : State) (i : PortIx) : State :=
  match s.link.ports[i].sending with
  | none => s
  | some f =>
    (s.leaveSource i f).updPort i fun r => PortRec.judge { r with sending := none, tx := min 255 (r.tx + 8) }

/-- The dropped flags a cleanly sent B0 carried set are cleared (R185). -/
def State.clearDropped (s : State) (f : OutFrame) : State :=
  match f.source with
  | .beacon b =>
    (s.updPort 0 fun r => { r with dropped := r.dropped && !b.dropped0 }).updPort 1 fun r =>
      { r with dropped := r.dropped && !b.dropped1 }
  | _ => s

/-- A frame sent to its end without a mismatch (R183, R185, R186). -/
def State.sentCleanly (s : State) (i : PortIx) : State :=
  match s.link.ports[i].sending with
  | none => s
  | some f =>
    ((s.leaveSource i f).updPort i fun r => PortRec.judge { r with sending := none, tx := r.tx - 1 }).clearDropped f

/-- The bytes of a frame as a port sends them. A frame that answers no request has a tag that no rule gives (log 15). -/
def State.frameBytes (s : State) (f : OutFrame) : List Byte :=
  RawFrame.bytes
    { priority := f.priority, sender := s.base.node.val, receiver := f.receiver, length := f.payload.length, kind := f.kind
      ident := f.ident, tag := f.tag.getD (Config.unsolicitedTag s.choiceCount), payload := f.payload }

/-- What a port is sending, as bytes. -/
def State.onWire (s : State) (i : PortIx) : Option (List Byte) := s.link.ports[i].sending.map s.frameBytes

/-! ### The beacon (R189, Tables 11.8 and 11.9) -/

/-- The payload of B0 with a beacon number. -/
def State.beacon0 (s : State) (number : BitVec 16) : List Byte :=
  let p0 := s.link.ports[(0 : PortIx)]
  let p1 := s.link.ports[(1 : PortIx)]
  byte1 (s.modes.mode.code * 64 + s.base.guard * 16 + flagCode s.base.stopLine * 8 + flagCode s.base.save.isSome * 4
      + flagCode s.base.settingsInvalid * 2 + flagCode (decide (s.headroom < 0)))
    ++ byte1 s.modes.cause.code
    ++ byte1 (s.eng.state.code * 64 + s.sync.state.code * 8 + flagCode s.router.overrun * 4 + flagCode s.router.uta.isSome * 2
      + flagCode s.router.utb.isSome)
    ++ byte1 ((s.sync.target.map (·.pos.val)).getD 15 * 16 + flagCode s.src.auto * 8)
    ++ byte1 (p0.state.code * 64 + p1.state.code * 16 + flagCode p0.dropped * 8 + flagCode p1.dropped * 4)
    ++ be 2 number.toNat

/-- State codes two to a byte, the lower-numbered position in bits 7 to 4 (Table 11.9). -/
def nibbles : List Nat → List Byte
  | [] => []
  | [x] => byte1 (x * 16)
  | x :: y :: rest => byte1 (x * 16 + y) ++ nibbles rest

/-- The payload of B1 or B2: the state codes of a run of positions. -/
def State.beaconStates (s : State) (ps : List Pos) : List Byte := nibbles (ps.map fun p => s.pos[p].state.code)

/-- The three beacon frames of a period (R189). -/
def State.beaconFrames (s : State) (number : BitVec 16) : List BeaconFrame :=
  [{ ix := 0, payload := s.beacon0 number, number := number, dropped0 := s.link.ports[(0 : PortIx)].dropped
     dropped1 := s.link.ports[(1 : PortIx)].dropped },
    { ix := 1, payload := s.beaconStates (allPos.take 12), number := number },
    { ix := 2, payload := s.beaconStates (allPos.drop 12), number := number }]

/-- The beacon timer runs out (R189). -/
def State.beaconExpiry (s : State) : State :=
  if !s.link.beaconTimer.due then s
  else
    let n := s.link.beaconNumber + 1
    let fs := s.beaconFrames n
    { s with link := { s.link with
        beaconNumber := n, beaconTimer := some 100
        ports := s.link.ports.map fun r => if r.silent then r else { r with beacons := fs } } }

/-! ### Replies (R184, R185) -/

/-- The byte of part number and part count, four bits each (Table 11.7, note 1; more than 15 parts: log 14). No rule says which half holds
which: that the part number stands in bits 7 to 4 is the model's choice (log 52). -/
def partByte (part parts : Nat) : Byte := if parts ≤ 15 then BitVec.ofNat 8 (part * 16 + parts) else Config.wideParts part parts

/-- The payload of a reply: the result code, part number and count, and up to eight data bytes (R184, Table 11.7). No rule gives the part
count of a reply without data: that it is part 0 of 1 is the model's choice (log 44). -/
def Answer.payload (a : Answer) : List Byte :=
  [BitVec.ofNat 8 a.code.code, partByte a.part (max a.parts ((a.data.length + 7) / 8))] ++ a.data.take 8

/-- What identifies a request on its port: where it came, from whom, its tag and its identity. -/
structure Caller where
  req : Req
  ident : Nat
  deriving DecidableEq, Repr

/-- A reply queued for the port the request arrived on; a SILENT port queues none (R185). -/
def State.queueReply (s : State) (c : Caller) (a : Answer) : State :=
  s.updPort c.req.port fun r =>
    if r.silent then r
    else { r with replies := r.replies ++ [⟨c.req.sender, c.req.tag, c.ident, a.payload⟩] }

/-- The last-used port of every master table entry that matches the sender (R184). -/
def State.notePort (s : State) (q : Req) : State :=
  { s with link := { s.link with
      lastPort := Vector.ofFn fun m => match s.set.masters[m].node with
        | some n => if n.val = q.sender then some q.port else s.link.lastPort[m]
        | none => s.link.lastPort[m] } }

/-- The request is accepted: the part runs with a node number, and the sender is not its own (R183, R184). -/
def State.accepts (s : State) (q : Req) : Bool := s.linkUp && q.sender != s.base.node.val

/-- The reply queue of the port is full (R185). -/
def State.queueFull (s : State) (q : Req) : Bool := decide (8 ≤ s.link.ports[q.port].replies.length)

/-- An accepted request answered: its port noted, the full queue tested, the answer made and its reply queued (R184, R185). -/
def State.respond (s : State) (c : Caller) (f : State → Answer × State) : State :=
  if !s.accepts c.req then s
  else
    let s1 := s.notePort c.req
    if s1.queueFull c.req then s1.updPort c.req.port fun r => { r with dropped := true }
    else
      let r := f s1
      r.2.queueReply c r.1

/-- The answer to a request of a known identity and a length that fits: ROLE for a sender that matches no entry, and otherwise the
request's own (R184). -/
def State.matched (sender : Nat) (f : MasterIx → State → Answer × State) (s : State) : Answer × State :=
  match s.matchMaster sender with
  | none => s.answer .role
  | some m => f m s

/-- A request served (R36, R184, R185). -/
def State.serve (s : State) (q : Req) (ident : Nat) (f : MasterIx → State → Answer × State) : State :=
  s.respond ⟨q, ident⟩ (State.matched q.sender f)

/-- READ_NOTICES after the master match (R188). -/
def State.readNotices (s : State) (m : MasterIx) : Answer × State :=
  ({ code := .done, data := be 2 s.link.pendingSets[m].toNat }, { s with link := s.link.withdrawNotice m })

end Sys2Proof.Machine
end

