-- ==== Sys2Proof/Machine/Requests.lean ====
section
/-! DEFINITION. Requests as they arrive in a station frame: the identity and payload of each (Table 11.13, R193), the block that answers
it, and the reception of a frame (R184). -/

namespace Sys2Proof.Machine

/-- What a request payload reads as. `malformed` is an unnamed identity or a length that does not fit; `outOfRange` is a payload of
the right length with a field that names nothing, which is answered RANGE after the master match. -/
inductive Reading where
  | request (f : MasterIx → State → Answer × State)
  | outOfRange
  | malformed

/-- An answer that reads and changes nothing. -/
def reading (f : State → Answer) : MasterIx → State → Answer × State := fun _ s => (f s, s)

/-- The number one byte spells. -/
def num (b : Byte) : Nat := b.toNat

/-- The positions of a mask of three bytes; bit 23 names no position (log 18). -/
def maskOfBytes (a b c : Byte) : PosMask := BitVec.ofNat 23 (ofBe [a, b, c])

/-- A flag byte (R193). -/
def withFlag (b : Byte) (f : Bool → Reading) : Reading :=
  match flagOf (num b) with
  | some x => f x
  | none => .outOfRange

/-- The half bytes of bytes, upper half first. -/
def halves : List Byte → List Nat
  | [] => []
  | b :: rest => (num b / 16) :: (num b % 16) :: halves rest

/-- LAYER_WRITE: layer in bit 7 and first position in bits 4 to 0 of byte 0, the count, then one half byte for each position, close
entry in its upper two bits (R193). -/
def readLayerWrite (b count : Byte) (rest : List Byte) : Reading :=
  if rest.length ≠ (num count + 1) / 2 then .malformed
  else
    let es := ((halves rest).take (num count)).map fun h => (h / 4, h % 4)
    .request fun m s => s.layerWrite m (num b / 128) (num b % 32) es

/-- One cell of three bytes (Table 11.11). -/
def cellOf (a b c : Byte) : RawStep := ⟨num a / 16, num a % 16, pair b c⟩

/-- The cells of a PLAN_WRITE. -/
def cellsOf : List Byte → Option (List RawStep)
  | [] => some []
  | a :: b :: c :: rest => (cellsOf rest).map (cellOf a b c :: ·)
  | _ => none

/-- PLAN_WRITE: slot in bits 6 to 4 and start index in bits 3 to 0, then 1 to 3 cells (Table 11.11). -/
def readPlanWrite (b : Byte) (rest : List Byte) : Reading :=
  match cellsOf rest with
  | some (x :: xs) => .request fun m s => s.planWrite m (num b / 16 % 8) (num b % 16) (x :: xs)
  | _ => .malformed

/-- SETTING_WRITE: row, place, index bytes, then the value in the bytes of the item (R193). A row or an item that does not exist has no
bytes to its value: the request meets the checks of R195, which refuse it ROLE or RANGE (log 18). -/
def readSettingWrite (row place : Byte) (rest : List Byte) : Reading :=
  match indexWidth (num row) with
  | none => .request fun m s => s.settingWrite m (num row) (num place) (rest.map num) 0
  | some w =>
    let ix := (rest.take w).map num
    if rest.length < w then .malformed
    else match keyOf (num row) (num place) ix with
      | none => .request fun m s => s.settingWrite m (num row) (num place) ix 0
      | some k =>
        if (rest.drop w).length ≠ k.width then .malformed
        else .request fun m s => s.settingWrite m (num row) (num place) ix (ofBe (rest.drop w))

/-- SETTING_READ: row, place, index bytes, and the part when given (R184, R193). That a row that does not exist has its length unjudged and
is answered after the sender is matched is the model's choice (log 18). -/
def readSettingRead (row place : Byte) (rest : List Byte) : Reading :=
  match indexWidth (num row) with
  | none => .outOfRange
  | some w =>
    let ix := (rest.take w).map num
    if rest.length = w then .request (reading fun s => s.settingRead (num row) (num place) ix 0)
    else if rest.length = w + 1 then .request (reading fun s => s.settingRead (num row) (num place) ix (ofBe (rest.drop w)))
    else .malformed

/-- SYNC_STEP: position and action, 0 LATCH and 1 CLOSE (Table 9.5). -/
def readSyncStep (pos action : Byte) : Reading :=
  match num action with
  | 0 => .request fun m s => s.syncLatch m (num pos)
  | 1 => .request fun m s => s.syncClose m (num pos)
  | _ => .outOfRange

/-- The request of an identity with a payload (Table 11.13, R193). READ has its index byte for every item (log 17). -/
def readRequest (ident : Nat) (payload : List Byte) : Reading :=
  match ident, payload with
  | 1, [i, x] => .request (reading fun s => s.readRecord (num i) (num x) 0)
  | 1, [i, x, p] => .request (reading fun s => s.readRecord (num i) (num x) (num p))
  | 2, [] => .request fun m s => s.readNotices m
  | 3, [a, b, c, k, w, t] => withFlag w fun wait => .request fun m s => s.permitReq m (maskOfBytes a b c) (num k) wait (num t)
  | 4, [a, b, c, w] => withFlag w fun drop => .request fun m s => s.permitRelease m (maskOfBytes a b c) drop
  | 5, [a, b, c] => .request fun m s => s.permitRenew m (maskOfBytes a b c)
  | 6, b :: n :: rest => readLayerWrite b n rest
  | 7, [l] => .request fun m s => s.layerCommit m (num l)
  | 8, [l] => .request fun m s => s.layerAbandon m (num l)
  | 9, [l, c, f, n] => .request (reading fun s => s.layerRead (num l) (num c) (num f) (num n) 0)
  | 9, [l, c, f, n, p] => .request (reading fun s => s.layerRead (num l) (num c) (num f) (num n) (num p))
  | 10, [c] => .request fun m s => s.setCombine m (num c)
  | 11, [p] => .request fun m s => s.masterOpen m (num p)
  | 12, [p] => .request fun m s => s.masterClose m (num p)
  | 13, [p, md] => .request fun m s => s.masterCloseSync m (num p) (num md)
  | 14, [p] => .request fun m s => s.resetTrip m (num p)
  | 15, [p] => .request fun m s => s.masterUnshed m (num p)
  | 16, [a, b, c, x, y] => .request fun m s => s.groupSwitch m (maskOfBytes a b c) (num x) (num y)
  | 17, [x, f] => .request fun m s => s.groupForce m (num x) (num f)
  | 18, [o] => .request (reading fun s => s.recordRead (num o) 0)
  | 18, [o, p] => .request (reading fun s => s.recordRead (num o) (num p))
  | 19, [a, b] => .request fun m s => s.releaseRecord m (pair a b)
  | 20, [e] => .request fun m s => s.autoTransfer m (num e)
  | 21, b :: rest => readPlanWrite b rest
  | 22, [sl] => .request fun m s => s.planClear m (num sl)
  | 23, [sl, st, n] => .request (reading fun s => s.planRead (num sl) (num st) (num n) 0)
  | 23, [sl, st, n, p] => .request (reading fun s => s.planRead (num sl) (num st) (num n) (num p))
  | 24, [sl] => .request fun m s => s.planStart m (num sl)
  | 25, [] => .request fun m s => s.planResume m
  | 26, [] => .request fun m s => s.planAbandon m
  | 27, [p, a] => readSyncStep p a
  | 28, [p] => .request fun m s => s.syncCancel m (num p)
  | 29, [g, md] => .request fun m s => s.admitGen m (num g) (num md)
  | 30, [g] => .request fun m s => s.withdrawGen m (num g)
  | 31, [g] => .request fun m s => s.clearLockout m (num g)
  | 32, row :: place :: rest => readSettingWrite row place rest
  | 33, row :: place :: rest => readSettingRead row place rest
  | 34, [] => .request fun m s => s.saveRequest m
  | 35, [l] => .request fun m s => s.setGuard m (num l)
  | 36, [] => .request fun m s => s.holdRequest m
  | 37, [] => .request fun m s => s.runRequest m
  | _, _ => .malformed

/-- The answer to a request as it was read (R184). -/
def Reading.answer (r : Reading) (sender : Nat) (s : State) : Answer × State :=
  match r with
  | .malformed => s.answer .range
  | .outOfRange => State.matched sender (fun _ s => s.answer .range) s
  | .request f => State.matched sender f s

/-- The request a frame carries (R193). No rule says what follows a good check whose byte 1 names another length than the number of payload
bytes received, or a length above 10; the model's choice is to read such a frame as malformed, which is answered RANGE (DESIGN CHOICE,
log 51). -/
def RawFrame.reading (f : RawFrame) : Reading := if f.lengthFits then readRequest f.ident f.payload else .malformed

/-- A frame received whole on a port (R184, R186): bad exactly when its check does not match; a good one is served when it is a request to
this node. A frame too short to name its receiver is counted as good and discarded (log 36). -/
def State.frameReceived (s : State) (i : PortIx) (bytes : List Byte) : State :=
  if s.base.phase ≠ .running then s
  else match checked bytes with
    | none => s.updPort i PortRec.bad
    | some body =>
      let s1 := s.updPort i PortRec.good
      match frameOfBody body with
      | none => s1
      | some f =>
        if f.receiver = s.base.node.val ∧ f.kind = 0 then
          s1.respond ⟨⟨i, f.sender, f.tag⟩, f.ident⟩ (f.reading.answer f.sender)
        else s1

end Sys2Proof.Machine
end

