-- ==== Sys2Proof/Machine/Clock.lean ====
section
/-! DEFINITION. One millisecond of the clock (R33): what the step on an empty queue does (log 1). Every running timer has one
millisecond less, and the expiry of each timer that has run out is queued, in a free order (log 2, log 3). -/

namespace Sys2Proof.Machine

/-! ### Timers one millisecond on -/

/-- The timers of a position. -/
def PosRec.tick (r : PosRec) : PosRec :=
  { r with
    closeTimer := r.closeTimer.tick, openTimer := r.openTimer.tick, travelTimer := r.travelTimer.tick
    discTimer := r.discTimer.tick, recTimer := r.recTimer.tick }

/-- The lease of a permit. -/
def Permit.tick : Permit → Permit
  | .operate m lease => .operate m lease.tick
  | x => x

/-- The permits and wait timers. -/
def Authority.tick (t : Authority) : Authority :=
  { t with
    permits := t.permits.map fun p => p.map Permit.tick
    waits := t.waits.map fun e => { e with wait := e.wait.tick } }

/-- The overlap timer of a join. -/
def JoinRec.tick (r : JoinRec) : JoinRec := { r with timer := r.timer.tick }

/-- The overlap timers. -/
def Joins.tick (t : Joins) : Joins :=
  { uaUb := t.uaUb.map JoinRec.tick, uaGb := t.uaGb.map JoinRec.tick, ubGb := t.ubGb.map JoinRec.tick }

/-- The timers of the interlock evaluator. -/
def Interlock.tick (t : Interlock) : Interlock :=
  { t with joins := t.joins.tick, group := { t.group with dead := t.group.dead.tick } }

/-- The timers of the trip router that run through a warm reset: the bound of the lock-word program and the line timers (R102, R107). -/
def Router.tickKept (t : Router) : Router :=
  { t with prog := t.prog.map fun g => { g with bound := g.bound.tick }, uta := t.uta.tick, utb := t.utb.tick }

/-- Every timer of the trip router. -/
def Router.tick (t : Router) : Router :=
  { t.tickKept with active := t.active.map fun a => a.map fun x => { x with timer := x.timer.tick } }

/-- The loss timer of a monitor. -/
def MonRec.tick (r : MonRec) : MonRec := { r with loss := r.loss.tick }

/-- The loss timers. -/
def Sources.tick (t : Sources) : Sources := { t with ua := t.ua.tick, ub := t.ub.tick, gb := t.gb.tick }

/-- The timers of the engine. -/
def Engine.tick (t : Engine) : Engine :=
  { t with stepTimer := t.stepTimer.tick, poll := t.poll.tick, marks := ⟨t.marks.a.tick, t.marks.b.tick, t.marks.n.tick⟩ }

/-- The timers of an attempt. -/
def Attempt.tick (t : Attempt) : Attempt :=
  { t with
    attemptTimer := t.attemptTimer.tick, edgeRunning := t.edgeRunning.tick, edgeReference := t.edgeReference.tick
    periodTimer := t.periodTimer.tick
    outs := ⟨t.outs.speedRaise.tick, t.outs.speedLower.tick, t.outs.voltRaise.tick, t.outs.voltLower.tick⟩ }

/-- The time base and the save program, which run on through a warm reset (R33, R196). -/
def Base.tick (b : Base) : Base :=
  { b with timeBase := b.timeBase + 1, save := b.save.map fun g => { g with bound := g.bound.tick } }

/-- Every timer one millisecond on. -/
def State.tickAll (s : State) : State :=
  { s with
    base := s.base.tick
    pos := s.pos.map PosRec.tick
    meas := { s.meas with roundTimer := s.meas.roundTimer.tick }
    auth := s.auth.tick
    inter := s.inter.tick
    router := s.router.tick
    src := s.src.tick
    eng := s.eng.tick
    sync := { s.sync with att := s.sync.att.tick }
    led := { s.led with spacing := s.led.spacing.tick }
    link := { s.link with beaconTimer := s.link.beaconTimer.tick } }

/-- One millisecond of a warm reset: only what Table 6.10 and R196 keep runs on (log 10). -/
def State.tickKept (s : State) : State := { s with base := s.base.tick, router := s.router.tickKept }

/-! ### Expiries due -/

/-- A command when a condition holds. -/
def whenDue (b : Bool) (c : Instr) : List Instr := if b then [c] else []

/-- The expiries due of one position. -/
def State.duePos (s : State) (p : Pos) : List Instr :=
  let r := s.pos[p]
  whenDue r.travelTimer.due (.travelTimerExpiry p) ++ whenDue r.discTimer.due (.discrepancyTimerExpiry p)
    ++ whenDue r.recTimer.due (.recoveryTimerExpiry p) ++ whenDue r.closeTimer.due (.closeTimerExpiry p)
    ++ whenDue r.openTimer.due (.openTimerExpiry p)
    ++ whenDue (s.router.active[p].any fun a => a.timer.due) (.bfTimerExpiry p)
    ++ whenDue (match s.auth.permits[p] with
      | some (.operate _ lease) => lease.due
      | _ => false) (.leaseExpiry p)

/-- The expiries due of the synchronizer. -/
def State.dueSync (s : State) : List Instr :=
  let a := s.sync.att
  whenDue a.edgeRunning.due (.edgeSupervisionExpiry .running) ++ whenDue a.edgeReference.due (.edgeSupervisionExpiry .reference)
    ++ whenDue a.attemptTimer.due .attemptTimerExpiry ++ whenDue a.periodTimer.due .periodTimerExpiry
    ++ [CorrOut.speedRaise, .speedLower, .voltRaise, .voltLower].flatMap fun o => whenDue (a.outs.get o).due (.onTimerExpiry o)

/-- The expiries due of the engine, the monitors and the ledger. -/
def State.dueEngine (s : State) : List Instr :=
  whenDue s.eng.poll.due .pollTimerExpiry ++ whenDue s.eng.stepTimer.due .stepTimerExpiry
    ++ ([Bus.a, .b, .n].flatMap fun bus => whenDue (s.eng.marks.get bus).due (.deadTimeMarkExpiry bus))
    ++ ([Source.ua, .ub, .gb].flatMap fun m => whenDue (s.src.get m).loss.due (.lossTimerExpiry m))
    ++ whenDue s.led.spacing.due .spacingTimerExpiry

/-- The expiries due of the other blocks. A program that has run its longest time completes, a save not before the end of a warm reset
(R102, R196; log 11). -/
def State.dueOthers (s : State) : List Instr :=
  whenDue s.meas.roundTimer.due .roundTimerExpiry
    ++ whenDue (s.router.prog.any fun g => g.bound.due) .lockWordProgramComplete
    ++ whenDue s.router.uta.due (.upstreamLineTimerExpiry .uta) ++ whenDue s.router.utb.due (.upstreamLineTimerExpiry .utb)
    ++ (s.auth.waits.flatMap fun e => whenDue e.wait.due (.waitTimerExpiry e.requester))
    ++ (allJoins.flatMap fun j => whenDue ((s.inter.joins.get j).any fun r => r.timer.due) (.overlapTimerExpiry j))
    ++ whenDue s.inter.group.dead.due .deadTimerExpiry ++ whenDue s.link.beaconTimer.due .beaconTimerExpiry
    ++ whenDue (s.base.phase == .running && s.base.save.any fun g => g.bound.due) .saveComplete

/-- The expiries due, in the order of the blocks. -/
def State.dueCommands (s : State) : List Instr := allPos.flatMap s.duePos ++ s.dueSync ++ s.dueEngine ++ s.dueOthers

/-- The expiries due put behind the queue, in a freely chosen order (log 3). -/
def State.queueDue (s : State) : State :=
  let r := s.anyOrder s.dueCommands
  { r.2 with pending := r.2.pending ++ r.1 }

/-- One millisecond: nothing without power; what a warm reset keeps during one; every timer otherwise (log 1). -/
def State.tick (s : State) : State :=
  match s.base.phase with
  | .off => s
  | .warmReset => s.tickKept.queueDue
  | .running => s.tickAll.queueDue

end Sys2Proof.Machine
end

