-- ==== Sys2Proof/Machine/Generators.lean ====
section
/-! DEFINITION. The meanings of the commands of the family: generators and load. Each is the block's own operation on the state, with
everything it hands on taken within the command. -/

namespace Sys2Proof.Machine

/-- ADMIT (R168). -/
def execGenAdmit (q : Req) (gen mode : Nat) (s : State) : Host.Outcome State Fault Refusal :=
  .next ((s.serve q 29 fun m s => s.admitGen m gen mode).finish)

/-- WITHDRAW (R169). -/
def execGenWithdraw (q : Req) (gen : Nat) (s : State) : Host.Outcome State Fault Refusal :=
  .next ((s.serve q 30 fun m s => s.withdrawGen m gen).finish)

/-- GENERATOR_LOCKOUT: a failure count of 16 or more (R170, R171; log 6). -/
def execGeneratorLockout (g : GenIx) (s : State) : Host.Outcome State Fault Refusal :=
  .next ((s.checkLockout g).finish)

/-- CLEAR_LOCKOUT (R172). -/
def execClearLockout (q : Req) (gen : Nat) (s : State) : Host.Outcome State Fault Refusal :=
  .next ((s.serve q 31 fun m s => s.clearLockout m gen).finish)

/-- READMIT_COMPLETE: a readmit count of 200 (R173; log 6). -/
def execReadmitComplete (g : GenIx) (s : State) : Host.Outcome State Fault Refusal :=
  .next ((s.readmitComplete g).finish)

/-- FIT_COUNT_RESTORE: a fit count at the restore delay (R177, R179; log 6). -/
def execFitCountRestore (s : State) : Host.Outcome State Fault Refusal :=
  .next s.fitRestore.finish

/-- SPACING_TIMER_EXPIRY (R177). -/
def execSpacingTimerExpiry (s : State) : Host.Outcome State Fault Refusal :=
  .next s.spacingExpiry.finish

end Sys2Proof.Machine
end

