-- ==== Sys2Proof/Machine/Measurement.lean ====
section
/-! DEFINITION. The meanings of the commands of the family: measurement and protection. Each is the block's own operation on the state, with
everything it hands on taken within the command. -/

namespace Sys2Proof.Machine

/-- MEASUREMENT_DATA_FRAME: a frame at the measurement port (R23 to R25). -/
def execMeasurementDataFrame (bytes : List Byte) (s : State) : Host.Outcome State Fault Refusal :=
  .next ((s.measArrive bytes).finish)

/-- END_OF_ROUND: a marker at the measurement port (R23, R26). -/
def execEndOfRound (bytes : List Byte) (s : State) : Host.Outcome State Fault Refusal :=
  .next ((s.measArrive bytes).finish)

/-- ROUND_TIMER_EXPIRY (R27). -/
def execRoundTimerExpiry (s : State) : Host.Outcome State Fault Refusal :=
  .next s.roundExpiry.finish

/-- MEAS_LOST_ENTRY: a channel whose absence count has reached 3 (R29; log 6). -/
def execMeasLostEntry (ch : Chan) (s : State) : Host.Outcome State Fault Refusal :=
  .next ((s.measLostEntry ch).finish)

/-- ELEMENT_OPERATE: an element whose operating condition is met (R86; log 6). -/
def execElementOperate (p : Pos) (e : Element) (s : State) : Host.Outcome State Fault Refusal :=
  .next ((s.elementOperate p e).finish)

/-- ZONE_HOLD_EXPIRY: the hold of a section block has run out (R87; log 6). -/
def execZoneHoldExpiry (sec : BusSec) (s : State) : Host.Outcome State Fault Refusal :=
  .next ((s.zoneHoldExpiry sec).finish)

/-- GROUP_FORCE (R91). -/
def execGroupForce (q : Req) (sec choice : Nat) (s : State) : Host.Outcome State Fault Refusal :=
  .next ((s.serve q 17 fun m s => s.groupForce m sec choice).finish)

end Sys2Proof.Machine
end

