-- ==== Sys2Proof/Machine/Permits.lean ====
section
/-! DEFINITION. The meanings of the commands of the family: permits. Each is the block's own operation on the state, with
everything it hands on taken within the command. -/

namespace Sys2Proof.Machine

/-- LEASE_EXPIRY (R39). -/
def execLeaseExpiry (p : Pos) (s : State) : Host.Outcome State Fault Refusal :=
  .next ((s.leaseExpiry p).finish)

/-- WAIT_TIMER_EXPIRY (R46). -/
def execWaitTimerExpiry (m : MasterIx) (s : State) : Host.Outcome State Fault Refusal :=
  .next ((s.waitExpiry m).finish)

/-- PERMIT_REQ (R41 to R43). -/
def execPermitReq (q : Req) (mask : PosMask) (kind : Nat) (wait : Bool) (waitTime : Nat) (s : State)
    : Host.Outcome State Fault Refusal :=
  .next ((s.serve q 3 fun m s => s.permitReq m mask kind wait waitTime).finish)

/-- PERMIT_RELEASE (R48). -/
def execPermitRelease (q : Req) (mask : PosMask) (withdraw : Bool) (s : State) : Host.Outcome State Fault Refusal :=
  .next ((s.serve q 4 fun m s => s.permitRelease m mask withdraw).finish)

/-- PERMIT_RENEW (R49). -/
def execPermitRenew (q : Req) (mask : PosMask) (s : State) : Host.Outcome State Fault Refusal :=
  .next ((s.serve q 5 fun m s => s.permitRenew m mask).finish)

end Sys2Proof.Machine
end

