-- ==== Sys2Proof/Machine/Plans.lean ====
section
/-! DEFINITION. The meanings of the commands of the family: sources, plans and the transfer engine. Each is the block's own operation on the state, with
everything it hands on taken within the command. -/

namespace Sys2Proof.Machine

/-- STABILITY_PROVED: the stability count has reached the return stability (R119; log 6). -/
def execStabilityProved (m : Source) (s : State) : Host.Outcome State Fault Refusal :=
  .next ((s.stabilityProved m).finish)

/-- LOSS_TIMER_EXPIRY (R120). -/
def execLossTimerExpiry (m : Source) (s : State) : Host.Outcome State Fault Refusal :=
  .next ((s.lossExpiry m).finish)

/-- AUTO_TRANSFER (R126). -/
def execAutoTransfer (q : Req) (enable : Nat) (s : State) : Host.Outcome State Fault Refusal :=
  .next ((s.serve q 20 fun m s => s.autoTransfer m enable).finish)

/-- PLAN_WRITE (R128). -/
def execPlanWrite (q : Req) (slot start : Nat) (steps : List RawStep) (s : State) : Host.Outcome State Fault Refusal :=
  .next ((s.serve q 21 fun m s => s.planWrite m slot start steps).finish)

/-- PLAN_CLEAR (R129). -/
def execPlanClear (q : Req) (slot : Nat) (s : State) : Host.Outcome State Fault Refusal :=
  .next ((s.serve q 22 fun m s => s.planClear m slot).finish)

/-- PLAN_READ (R130). -/
def execPlanRead (q : Req) (slot start count part : Nat) (s : State) : Host.Outcome State Fault Refusal :=
  .next ((s.serve q 23 (reading fun s => s.planRead slot start count part)).finish)

/-- PLAN_START (R134). -/
def execPlanStart (q : Req) (slot : Nat) (s : State) : Host.Outcome State Fault Refusal :=
  .next ((s.serve q 24 fun m s => s.planStart m slot).finish)

/-- POLL_TIMER_EXPIRY (R137, R142). -/
def execPollTimerExpiry (s : State) : Host.Outcome State Fault Refusal :=
  .next s.pollExpiry.finish

/-- STEP_TIMER_EXPIRY (R142). -/
def execStepTimerExpiry (s : State) : Host.Outcome State Fault Refusal :=
  .next s.stepExpiry.finish

/-- DEAD_TIME_MARK_EXPIRY (R141). -/
def execDeadTimeMarkExpiry (bus : Bus) (s : State) : Host.Outcome State Fault Refusal :=
  .next ((s.markExpiry bus).finish)

/-- PLAN_RESUME (R146). -/
def execPlanResume (q : Req) (s : State) : Host.Outcome State Fault Refusal :=
  .next ((s.serve q 25 fun m s => s.planResume m).finish)

/-- PLAN_ABANDON (R147). -/
def execPlanAbandon (q : Req) (s : State) : Host.Outcome State Fault Refusal :=
  .next ((s.serve q 26 fun m s => s.planAbandon m).finish)

end Sys2Proof.Machine
end

