-- ==== Sys2Proof/Machine/Positions.lean ====
section
/-! DEFINITION. The meanings of the commands of the family: positions. Each is the block's own operation on the state, with
everything it hands on taken within the command. -/

namespace Sys2Proof.Machine

/-- CONTACT_CHANGE: a contact pair takes new levels (R4). -/
def execContactChange (p : Pos) (a b : Bool) (s : State) : Host.Outcome State Fault Refusal :=
  .next ((s.contactChange p a b).finish)

/-- TRAVEL_TIMER_EXPIRY (R5). -/
def execTravelTimerExpiry (p : Pos) (s : State) : Host.Outcome State Fault Refusal :=
  .next ((s.travelExpiry p).finish)

/-- DISCREPANCY_TIMER_EXPIRY (R6). -/
def execDiscrepancyTimerExpiry (p : Pos) (s : State) : Host.Outcome State Fault Refusal :=
  .next ((s.discExpiry p).finish)

/-- RECOVERY_TIMER_EXPIRY (R7). -/
def execRecoveryTimerExpiry (p : Pos) (s : State) : Host.Outcome State Fault Refusal :=
  .next ((s.recoveryExpiry p).finish)

/-- CLOSE_TIMER_EXPIRY (R10). -/
def execCloseTimerExpiry (p : Pos) (s : State) : Host.Outcome State Fault Refusal :=
  .next ((s.closeExpiry p).finish)

/-- OPEN_TIMER_EXPIRY (R10). -/
def execOpenTimerExpiry (p : Pos) (s : State) : Host.Outcome State Fault Refusal :=
  .next ((s.openExpiry p).finish)

end Sys2Proof.Machine
end

