-- ==== Sys2Proof/Machine/Resets.lean ====
section
/-! DEFINITION. The meanings of the commands of the family: power and resets. Each is the block's own operation on the state, with
everything it hands on taken within the command. -/

namespace Sys2Proof.Machine

/-- POWER_ON_RESET: every block takes its power-on values (R21, R194, R200). -/
def execPowerOnReset (s : State) : Host.Outcome State Fault Refusal :=
  .next s.powerOnReset.finish

/-- WARM_RESET: the WRST line asserted (R22, R200). -/
def execWarmReset (s : State) : Host.Outcome State Fault Refusal :=
  .next s.warmReset.finish

/-- WARM_RESET_END: the WRST line released, the reset samples taken (R22, R111, R200). -/
def execWarmResetEnd (s : State) : Host.Outcome State Fault Refusal :=
  .next s.warmResetEnd.finish

/-- LOSS_OF_POWER: the volatile state is gone, programs in progress are abandoned (R102, R103, R196). -/
def execLossOfPower (s : State) : Host.Outcome State Fault Refusal :=
  .next s.losePower.finish

end Sys2Proof.Machine
end

