-- ==== Sys2Proof/Machine/SettingsModes.lean ====
section
/-! DEFINITION. The meanings of the commands of the family: settings and modes. Each is the block's own operation on the state, with
everything it hands on taken within the command. -/

namespace Sys2Proof.Machine

/-- SETTING_WRITE (R195). -/
def execSettingWrite (q : Req) (row place : Nat) (index : List Nat) (value : Nat) (s : State)
    : Host.Outcome State Fault Refusal :=
  .next ((s.serve q 32 fun m s => s.settingWrite m row place index value).finish)

/-- SETTING_READ (R195). -/
def execSettingRead (q : Req) (row place : Nat) (index : List Nat) (part : Nat) (s : State)
    : Host.Outcome State Fault Refusal :=
  .next ((s.serve q 33 (reading fun s => s.settingRead row place index part)).finish)

/-- SAVE (R196). -/
def execSave (q : Req) (s : State) : Host.Outcome State Fault Refusal :=
  .next ((s.serve q 34 fun m s => s.saveRequest m).finish)

/-- SAVE_COMPLETE (R196). -/
def execSaveComplete (s : State) : Host.Outcome State Fault Refusal :=
  .next s.saveComplete.finish

/-- SET_GUARD (R197). -/
def execSetGuard (q : Req) (level : Nat) (s : State) : Host.Outcome State Fault Refusal :=
  .next ((s.serve q 35 fun m s => s.setGuard m level).finish)

/-- HOLD (R198). -/
def execHold (q : Req) (s : State) : Host.Outcome State Fault Refusal :=
  .next ((s.serve q 36 fun m s => s.holdRequest m).finish)

/-- RUN (R199). -/
def execRun (q : Req) (s : State) : Host.Outcome State Fault Refusal :=
  .next ((s.serve q 37 fun m s => s.runRequest m).finish)

/-- SETTLE_COMPLETE: the settle count has reached 64 (R199; log 6). -/
def execSettleComplete (s : State) : Host.Outcome State Fault Refusal :=
  .next s.settleComplete.finish

end Sys2Proof.Machine
end

