-- ==== Sys2Proof/Machine/StationLink.lean ====
section
/-! DEFINITION. The meanings of the commands of the family: the station link. Each is the block's own operation on the state, with
everything it hands on taken within the command. -/

namespace Sys2Proof.Machine

/-- STATION_FRAME_RECEIVED (R184, R186). -/
def execStationFrameReceived (port : PortIx) (bytes : List Byte) (s : State) : Host.Outcome State Fault Refusal :=
  .next ((s.frameReceived port bytes).finish)

/-- LINK_IDLE_OFFER: the link goes idle and the port offers a frame (R183). -/
def execLinkIdleOffer (port : PortIx) (s : State) : Host.Outcome State Fault Refusal :=
  .next ((s.linkIdle port).finish)

/-- ARBITRATION_LOST (R183). -/
def execArbitrationLost (port : PortIx) (s : State) : Host.Outcome State Fault Refusal :=
  .next ((s.arbitrationLost port).finish)

/-- TRANSMIT_ERROR (R183, R186). -/
def execTransmitError (port : PortIx) (s : State) : Host.Outcome State Fault Refusal :=
  .next ((s.transmitError port).finish)

/-- FRAME_SENT_CLEANLY (R183, R185, R186). -/
def execFrameSentCleanly (port : PortIx) (s : State) : Host.Outcome State Fault Refusal :=
  .next ((s.sentCleanly port).finish)

/-- READ_NOTICES (R188). -/
def execReadNotices (q : Req) (s : State) : Host.Outcome State Fault Refusal :=
  .next ((s.serve q 2 fun m s => s.readNotices m).finish)

/-- BEACON_TIMER_EXPIRY (R189). -/
def execBeaconTimerExpiry (s : State) : Host.Outcome State Fault Refusal :=
  .next s.beaconExpiry.finish

/-- READ (R190). -/
def execReadRecord (q : Req) (item index part : Nat) (s : State) : Host.Outcome State Fault Refusal :=
  .next ((s.serve q 1 (reading fun s => s.readRecord item index part)).finish)

end Sys2Proof.Machine
end

