-- ==== Sys2Proof/Machine/Switching.lean ====
section
/-! DEFINITION. The meanings of the commands of the family: layers, switching commands and groups. Each is the block's own operation on the state, with
everything it hands on taken within the command. -/

namespace Sys2Proof.Machine

/-- LAYER_WRITE (R58). -/
def execLayerWrite (q : Req) (layer first : Nat) (entries : List (Nat × Nat)) (s : State) : Host.Outcome State Fault Refusal :=
  .next ((s.serve q 6 fun m s => s.layerWrite m layer first entries).finish)

/-- LAYER_COMMIT (R59). -/
def execLayerCommit (q : Req) (layer : Nat) (s : State) : Host.Outcome State Fault Refusal :=
  .next ((s.serve q 7 fun m s => s.layerCommit m layer).finish)

/-- LAYER_ABANDON (R59). -/
def execLayerAbandon (q : Req) (layer : Nat) (s : State) : Host.Outcome State Fault Refusal :=
  .next ((s.serve q 8 fun m s => s.layerAbandon m layer).finish)

/-- LAYER_READ (R60). -/
def execLayerRead (q : Req) (layer copy first count part : Nat) (s : State) : Host.Outcome State Fault Refusal :=
  .next ((s.serve q 9 (reading fun s => s.layerRead layer copy first count part)).finish)

/-- SET_COMBINE (R62). -/
def execSetCombine (q : Req) (mode : Nat) (s : State) : Host.Outcome State Fault Refusal :=
  .next ((s.serve q 10 fun m s => s.setCombine m mode).finish)

/-- OPEN (R63, R64). -/
def execOpenCmd (q : Req) (pos : Nat) (s : State) : Host.Outcome State Fault Refusal :=
  .next ((s.serve q 11 fun m s => s.masterOpen m pos).finish)

/-- CLOSE (R63, R64). -/
def execCloseCmd (q : Req) (pos : Nat) (s : State) : Host.Outcome State Fault Refusal :=
  .next ((s.serve q 12 fun m s => s.masterClose m pos).finish)

/-- CLOSE_SYNC (R63 to R65). -/
def execCloseSync (q : Req) (pos mode : Nat) (s : State) : Host.Outcome State Fault Refusal :=
  .next ((s.serve q 13 fun m s => s.masterCloseSync m pos mode).finish)

/-- RESET_TRIP (R64, R66). -/
def execResetTrip (q : Req) (pos : Nat) (s : State) : Host.Outcome State Fault Refusal :=
  .next ((s.serve q 14 fun m s => s.resetTrip m pos).finish)

/-- UNSHED (R66, R180). -/
def execUnshed (q : Req) (pos : Nat) (s : State) : Host.Outcome State Fault Refusal :=
  .next ((s.serve q 15 fun m s => s.masterUnshed m pos).finish)

/-- OVERLAP_TIMER_EXPIRY (R71). -/
def execOverlapTimerExpiry (j : JoinId) (s : State) : Host.Outcome State Fault Refusal :=
  .next ((s.overlapExpiry j).finish)

/-- GROUP_SWITCH (R73, R74). -/
def execGroupSwitch (q : Req) (mask : PosMask) (marked unmarked : Nat) (s : State) : Host.Outcome State Fault Refusal :=
  .next ((s.serve q 16 fun m s => s.groupSwitch m mask marked unmarked).finish)

/-- DEAD_TIMER_EXPIRY (R75). -/
def execDeadTimerExpiry (s : State) : Host.Outcome State Fault Refusal :=
  .next s.deadExpiry.finish

end Sys2Proof.Machine
end

