-- ==== Sys2Proof/Machine/Synchronizing.lean ====
section
/-! DEFINITION. The meanings of the commands of the family: the synchronizer. Each is the block's own operation on the state, with
everything it hands on taken within the command. -/

namespace Sys2Proof.Machine

/-- ZERO_CROSSING_EDGE (R152 to R154). -/
def execZeroCrossingEdge (line : ZLine) (sub : Nat) (s : State) : Host.Outcome State Fault Refusal :=
  .next ((s.zeroCrossing line sub).finish)

/-- WINDOW_CONFIRMED: the third consecutive measurement in window triggers the close (R154, R155; log 6). -/
def execWindowConfirmed (s : State) : Host.Outcome State Fault Refusal :=
  .next s.windowConfirmed.finish

/-- EDGE_SUPERVISION_EXPIRY (R152). -/
def execEdgeSupervisionExpiry (side : EdgeSide) (s : State) : Host.Outcome State Fault Refusal :=
  .next ((s.edgeExpiry side).finish)

/-- ATTEMPT_TIMER_EXPIRY (R160). -/
def execAttemptTimerExpiry (s : State) : Host.Outcome State Fault Refusal :=
  .next s.attemptExpiry.finish

/-- PERIOD_TIMER_EXPIRY (R156). -/
def execPeriodTimerExpiry (s : State) : Host.Outcome State Fault Refusal :=
  .next s.periodExpiry.finish

/-- ON_TIMER_EXPIRY (R156). -/
def execOnTimerExpiry (out : CorrOut) (s : State) : Host.Outcome State Fault Refusal :=
  .next ((s.onExpiry out).finish)

/-- SYNC_STEP with action LATCH (R157). -/
def execSyncStepLatch (q : Req) (pos : Nat) (s : State) : Host.Outcome State Fault Refusal :=
  .next ((s.serve q 27 fun m s => s.syncLatch m pos).finish)

/-- SYNC_STEP with action CLOSE (R157). -/
def execSyncStepClose (q : Req) (pos : Nat) (s : State) : Host.Outcome State Fault Refusal :=
  .next ((s.serve q 27 fun m s => s.syncClose m pos).finish)

/-- SYNC_CANCEL (R161). -/
def execSyncCancel (q : Req) (pos : Nat) (s : State) : Host.Outcome State Fault Refusal :=
  .next ((s.serve q 28 fun m s => s.syncCancel m pos).finish)

end Sys2Proof.Machine
end

