-- ==== Sys2Proof/Machine/Tripping.lean ====
section
/-! DEFINITION. The meanings of the commands of the family: tripping. Each is the block's own operation on the state, with
everything it hands on taken within the command. -/

namespace Sys2Proof.Machine

/-- LOCK_WORD_PROGRAM_COMPLETE (R102). -/
def execLockWordProgramComplete (s : State) : Host.Outcome State Fault Refusal :=
  .next s.lockProgramComplete.finish

/-- BF_TIMER_EXPIRY (R105 to R108). -/
def execBfTimerExpiry (p : Pos) (s : State) : Host.Outcome State Fault Refusal :=
  .next ((s.bfExpiry p).finish)

/-- UPSTREAM_LINE_TIMER_EXPIRY (R107). -/
def execUpstreamLineTimerExpiry (line : Upstream) (s : State) : Host.Outcome State Fault Refusal :=
  .next ((s.upstreamExpiry line).finish)

/-- STOP_ASSERTED (R109). -/
def execStopAsserted (s : State) : Host.Outcome State Fault Refusal :=
  .next s.stopAsserted.finish

/-- STOP_RELEASED (R111). -/
def execStopReleased (s : State) : Host.Outcome State Fault Refusal :=
  .next s.stopReleased.finish

/-- RECORD_READ (R114). -/
def execRecordRead (q : Req) (offset part : Nat) (s : State) : Host.Outcome State Fault Refusal :=
  .next ((s.serve q 18 (reading fun s => s.recordRead offset part)).finish)

/-- RECORD_RELEASE (R115). -/
def execRecordRelease (q : Req) (seq : Nat) (s : State) : Host.Outcome State Fault Refusal :=
  .next ((s.serve q 19 fun m s => s.releaseRecord m seq).finish)

end Sys2Proof.Machine
end

