-- ==== Sys2Proof/Machine/Dispatch.lean ====
section
/-! DEFINITION. What each command does: one arm for each constructor of Instr, each one direct call of its meaning. -/

namespace Sys2Proof.Machine

def exec (i : Instr) (s : State) : Host.Outcome State Fault Refusal :=
  match i with
  | .powerOnReset => Sys2Proof.Machine.execPowerOnReset s
  | .warmReset => Sys2Proof.Machine.execWarmReset s
  | .warmResetEnd => Sys2Proof.Machine.execWarmResetEnd s
  | .contactChange p a b => Sys2Proof.Machine.execContactChange p a b s
  | .travelTimerExpiry p => Sys2Proof.Machine.execTravelTimerExpiry p s
  | .discrepancyTimerExpiry p => Sys2Proof.Machine.execDiscrepancyTimerExpiry p s
  | .recoveryTimerExpiry p => Sys2Proof.Machine.execRecoveryTimerExpiry p s
  | .closeTimerExpiry p => Sys2Proof.Machine.execCloseTimerExpiry p s
  | .openTimerExpiry p => Sys2Proof.Machine.execOpenTimerExpiry p s
  | .measurementDataFrame bytes => Sys2Proof.Machine.execMeasurementDataFrame bytes s
  | .endOfRound bytes => Sys2Proof.Machine.execEndOfRound bytes s
  | .roundTimerExpiry => Sys2Proof.Machine.execRoundTimerExpiry s
  | .measLostEntry ch => Sys2Proof.Machine.execMeasLostEntry ch s
  | .elementOperate p e => Sys2Proof.Machine.execElementOperate p e s
  | .zoneHoldExpiry sec => Sys2Proof.Machine.execZoneHoldExpiry sec s
  | .lockWordProgramComplete => Sys2Proof.Machine.execLockWordProgramComplete s
  | .bfTimerExpiry p => Sys2Proof.Machine.execBfTimerExpiry p s
  | .upstreamLineTimerExpiry line => Sys2Proof.Machine.execUpstreamLineTimerExpiry line s
  | .stopAsserted => Sys2Proof.Machine.execStopAsserted s
  | .stopReleased => Sys2Proof.Machine.execStopReleased s
  | .leaseExpiry p => Sys2Proof.Machine.execLeaseExpiry p s
  | .waitTimerExpiry m => Sys2Proof.Machine.execWaitTimerExpiry m s
  | .permitReq q mask kind wait waitTime => Sys2Proof.Machine.execPermitReq q mask kind wait waitTime s
  | .permitRelease q mask withdraw => Sys2Proof.Machine.execPermitRelease q mask withdraw s
  | .permitRenew q mask => Sys2Proof.Machine.execPermitRenew q mask s
  | .layerWrite q layer first entries => Sys2Proof.Machine.execLayerWrite q layer first entries s
  | .layerCommit q layer => Sys2Proof.Machine.execLayerCommit q layer s
  | .layerAbandon q layer => Sys2Proof.Machine.execLayerAbandon q layer s
  | .layerRead q layer copy first count part => Sys2Proof.Machine.execLayerRead q layer copy first count part s
  | .setCombine q mode => Sys2Proof.Machine.execSetCombine q mode s
  | .openCmd q pos => Sys2Proof.Machine.execOpenCmd q pos s
  | .closeCmd q pos => Sys2Proof.Machine.execCloseCmd q pos s
  | .closeSync q pos mode => Sys2Proof.Machine.execCloseSync q pos mode s
  | .resetTrip q pos => Sys2Proof.Machine.execResetTrip q pos s
  | .unshed q pos => Sys2Proof.Machine.execUnshed q pos s
  | .overlapTimerExpiry j => Sys2Proof.Machine.execOverlapTimerExpiry j s
  | .groupSwitch q mask marked unmarked => Sys2Proof.Machine.execGroupSwitch q mask marked unmarked s
  | .deadTimerExpiry => Sys2Proof.Machine.execDeadTimerExpiry s
  | .groupForce q sec choice => Sys2Proof.Machine.execGroupForce q sec choice s
  | .recordRead q offset part => Sys2Proof.Machine.execRecordRead q offset part s
  | .recordRelease q seq => Sys2Proof.Machine.execRecordRelease q seq s
  | .stabilityProved m => Sys2Proof.Machine.execStabilityProved m s
  | .lossTimerExpiry m => Sys2Proof.Machine.execLossTimerExpiry m s
  | .autoTransfer q enable => Sys2Proof.Machine.execAutoTransfer q enable s
  | .planWrite q slot start steps => Sys2Proof.Machine.execPlanWrite q slot start steps s
  | .planClear q slot => Sys2Proof.Machine.execPlanClear q slot s
  | .planRead q slot start count part => Sys2Proof.Machine.execPlanRead q slot start count part s
  | .planStart q slot => Sys2Proof.Machine.execPlanStart q slot s
  | .pollTimerExpiry => Sys2Proof.Machine.execPollTimerExpiry s
  | .stepTimerExpiry => Sys2Proof.Machine.execStepTimerExpiry s
  | .deadTimeMarkExpiry bus => Sys2Proof.Machine.execDeadTimeMarkExpiry bus s
  | .planResume q => Sys2Proof.Machine.execPlanResume q s
  | .planAbandon q => Sys2Proof.Machine.execPlanAbandon q s
  | .zeroCrossingEdge line sub => Sys2Proof.Machine.execZeroCrossingEdge line sub s
  | .windowConfirmed => Sys2Proof.Machine.execWindowConfirmed s
  | .edgeSupervisionExpiry side => Sys2Proof.Machine.execEdgeSupervisionExpiry side s
  | .attemptTimerExpiry => Sys2Proof.Machine.execAttemptTimerExpiry s
  | .periodTimerExpiry => Sys2Proof.Machine.execPeriodTimerExpiry s
  | .onTimerExpiry out => Sys2Proof.Machine.execOnTimerExpiry out s
  | .syncStepLatch q pos => Sys2Proof.Machine.execSyncStepLatch q pos s
  | .syncStepClose q pos => Sys2Proof.Machine.execSyncStepClose q pos s
  | .syncCancel q pos => Sys2Proof.Machine.execSyncCancel q pos s
  | .genAdmit q gen mode => Sys2Proof.Machine.execGenAdmit q gen mode s
  | .genWithdraw q gen => Sys2Proof.Machine.execGenWithdraw q gen s
  | .generatorLockout g => Sys2Proof.Machine.execGeneratorLockout g s
  | .clearLockout q gen => Sys2Proof.Machine.execClearLockout q gen s
  | .readmitComplete g => Sys2Proof.Machine.execReadmitComplete g s
  | .fitCountRestore => Sys2Proof.Machine.execFitCountRestore s
  | .spacingTimerExpiry => Sys2Proof.Machine.execSpacingTimerExpiry s
  | .stationFrameReceived port bytes => Sys2Proof.Machine.execStationFrameReceived port bytes s
  | .linkIdleOffer port => Sys2Proof.Machine.execLinkIdleOffer port s
  | .arbitrationLost port => Sys2Proof.Machine.execArbitrationLost port s
  | .transmitError port => Sys2Proof.Machine.execTransmitError port s
  | .frameSentCleanly port => Sys2Proof.Machine.execFrameSentCleanly port s
  | .readNotices q => Sys2Proof.Machine.execReadNotices q s
  | .beaconTimerExpiry => Sys2Proof.Machine.execBeaconTimerExpiry s
  | .readRecord q item index part => Sys2Proof.Machine.execReadRecord q item index part s
  | .settingWrite q row place index value => Sys2Proof.Machine.execSettingWrite q row place index value s
  | .settingRead q row place index part => Sys2Proof.Machine.execSettingRead q row place index part s
  | .save q => Sys2Proof.Machine.execSave q s
  | .saveComplete => Sys2Proof.Machine.execSaveComplete s
  | .setGuard q level => Sys2Proof.Machine.execSetGuard q level s
  | .hold q => Sys2Proof.Machine.execHold q s
  | .run q => Sys2Proof.Machine.execRun q s
  | .settleComplete => Sys2Proof.Machine.execSettleComplete s
  | .lossOfPower => Sys2Proof.Machine.execLossOfPower s

end Sys2Proof.Machine
end

