-- ==== Sys2Proof/Safety.lean ====
section
/-! DEFINITION. The vocabulary of the statements about this machine: what it is for a request to be heard and answered, what the manual's
own words mean where no definition of the machine says them (a chain of direct connections, R19), and the invariants that every step
keeps. -/

namespace Sys2Proof.Machine

/-- Nothing handed on waits to be taken and no lock-word update waits to be started: the state between two commands (log 4). -/
abbrev State.calm (s : State) : Prop := s.inbox = [] ∧ s.lockAsk = false

/-- A request from master `m` is accepted: the part takes requests, the reply queue of the port has room, and the sender's entry of
lowest index is `m` (R36, R183 to R185). -/
abbrev State.hears (s : State) (q : Req) (m : MasterIx) : Prop :=
  s.accepts q = true ∧ s.queueFull q = false ∧ s.matchMaster q.sender = some m

/-- The end of a request: its reply is queued and what it handed on is taken (R184). -/
def State.answered (s : State) (q : Req) (ident : Nat) (a : Answer) : State := (s.queueReply ⟨q, ident⟩ a).finish

/-- Bus `x` reaches bus `y` through a chain of direct connections, each made by a connecting position (R19). -/
inductive Reaches (conn : Pos → Bool) : Bus → Bus → Prop where
  | here (x : Bus) : Reaches conn x x
  | overQT (x : Bus) : conn 2 = true → Reaches conn x .a → Reaches conn x .b
  | overQTBack (x : Bus) : conn 2 = true → Reaches conn x .b → Reaches conn x .a
  | overQNA (x : Bus) : conn 3 = true → Reaches conn x .a → Reaches conn x .n
  | overQNABack (x : Bus) : conn 3 = true → Reaches conn x .n → Reaches conn x .a
  | overQNB (x : Bus) : conn 4 = true → Reaches conn x .b → Reaches conn x .n
  | overQNBBack (x : Bus) : conn 4 = true → Reaches conn x .n → Reaches conn x .b

/-- The source attached to a bus, and when it is attached (R19). -/
def attached (conn : Pos → Bool) (genClosed : Bool) : Bus → Source → Bool
  | .a, .ua => conn 0
  | .b, .ub => conn 1
  | .n, .gb => genClosed
  | _, _ => false

/-- A voltage channel gave a voltage in the last round: it is PRESENT there with that value (R28, R67). -/
abbrev State.gaveVolt (s : State) (c : Chan) (v : Nat) : Prop :=
  s.meas.chans[c].status = .present ∧ ∃ f stamp, s.meas.chans[c].last = some (.voltage v f, stamp)

/-- A side is live: its sources include one whose monitor is HEALTHY or FAILING, or its voltage is 0.85 pu or more. The generator side is
judged by its voltage alone (R67). -/
abbrev State.sideLive (s : State) (d : Side) : Prop :=
  (d.voltOnly = false ∧ ∃ m : Source, d.sources.has m = true ∧ ((s.src.get m).state = .healthy ∨ (s.src.get m).state = .failing))
    ∨ ∃ v, s.gaveVolt d.chan v ∧ 850 ≤ v

/-- Settings that failed their check keep the part in HOLD (R194, R199). -/
abbrev State.invalidHolds (s : State) : Prop := s.base.settingsInvalid = true → s.modes.mode = .hold

/-- Every guard level that stands, is loaded at power-on, or is being saved is a guard level, 0 to 3 (R197). -/
def State.guardsFit (s : State) : Prop :=
  s.base.guard ≤ 3 ∧ s.set.initialGuard ≤ 3 ∧ (∀ t, s.base.image = some t → t.initialGuard ≤ 3)
    ∧ ∀ g, s.base.save = some g → g.capture.initialGuard ≤ 3

/-- The feed sets are those of the position table, and a pulse origin is present exactly while a pulse is in flight, a requester only
then (R3, R19, R20). -/
def State.positionsFit (s : State) : Prop :=
  s.feeds = feedsOf s.pos
    ∧ ∀ p : Pos, (s.pos[p].state.inFlight = true ↔ s.pos[p].origin ≠ none)
        ∧ (s.pos[p].requester ≠ none → s.pos[p].state.inFlight = true)

/-- The bounded stores hold no more than they may: the fault ring 32 records (R112), the wait list 16 entries (R43), the synchronizer's
wait list and outcome list 8 each (R150, R164), and each master's permit news 8 (R53). -/
def State.storesFit (s : State) : Prop :=
  s.router.ring.length ≤ 32 ∧ s.auth.waits.length ≤ 16 ∧ s.sync.waits.length ≤ 8 ∧ s.sync.outcomes.length ≤ 8
    ∧ ∀ m : MasterIx, s.auth.news[m].list.length ≤ 8

/-- The command changes the supply of the part. -/
def changesSupply : Instr → Bool
  | .powerOnReset | .lossOfPower => true
  | _ => false

/-- What a round boundary leaves (R27, R28): the slots empty, the round timer at 25 ms, each channel record set from its slot, the round
with its closing kind and stamp, and the round handed to every reading block. -/
abbrev boundaryMade (s : State) (byMarker : Bool) (u : State) : Prop :=
  (∀ c : Chan, u.meas.slots[c] = none) ∧ u.meas.roundTimer = some 25
    ∧ (∀ (c : Chan) (v : Values), s.meas.slots[c] = some v → u.meas.chans[c] = ⟨.present, 0, some (v, s.base.timeBase)⟩)
    ∧ (∀ c : Chan, s.meas.slots[c] = none →
        u.meas.chans[c].absence = min 3 (s.meas.chans[c].absence + 1) ∧ u.meas.chans[c].last = s.meas.chans[c].last
          ∧ u.meas.chans[c].status =
              if 2 ≤ s.meas.chans[c].absence then .measLost
              else if s.meas.chans[c].status = .present then .absent else s.meas.chans[c].status)
    ∧ (u.meas.round.map fun i => (i.byMarker, i.stamp)) = some (byMarker, s.base.timeBase)
    ∧ u.inbox = s.inbox ++ roundEvents
    ∧ { u with meas := s.meas, inbox := s.inbox } = s

/-- The state differs from another in the position table at one position only, besides what a change of position hands on: feed sets,
notices, protection records, the router's entries, and the events to be taken. -/
abbrev samePositionsBut (p : Pos) (u s : State) : Prop := ∀ q : Pos, q ≠ p → u.pos[q] = s.pos[q]

/-- The supervision and pulse timers of a position are all idle but the recovery timer, which runs exactly on a valid pair (R5 to R7). -/
abbrev faultyAtRest (r : PosRec) : Prop :=
  r.closeTimer = none ∧ r.openTimer = none ∧ r.travelTimer = none ∧ r.discTimer = none ∧ r.origin = none ∧ r.requester = none
    ∧ r.recTimer = if r.feedback.valid then some 100 else none

/-- A drive of a position begins (R3, R10): its record, and nothing of the other blocks but the notices and the events handed on. -/
abbrev pulseBegun (s v : State) (p : Pos) (close : Bool) (o : Origin) (req : Option MasterIx) : Prop :=
  v.pos[p] =
      { s.pos[p] with
        state := if close then .closePulse else .openPulse, origin := some o, requester := req
        closeTimer := if close then some s.set.pos[p].closeWidth else s.pos[p].closeTimer
        openTimer := if close then s.pos[p].openTimer else some s.set.pos[p].bfTime
        lastKind := .commanded, lastStamp := s.base.timeBase }
    ∧ samePositionsBut p v s ∧ v.feeds = feedsOf v.pos
    ∧ { v with pos := s.pos, feeds := s.feeds, link := s.link, inbox := s.inbox } = s

/-- A trip pulse begins (R11, R99): the position in TRIP_PULSE with no other timer, the active entry with its breaker-failure timer, and
TRIP_LOCKED set for every cause but OVERLAP. -/
def tripBegun (s v : State) (p : Pos) (c : TripCause) (parent : Option (BitVec 16)) : Prop :=
  v.pos[p].state = .tripPulse ∧ v.pos[p].origin = some .trip ∧ v.pos[p].requester = none ∧ v.pos[p].closeTimer = none
    ∧ v.pos[p].openTimer = none ∧ v.pos[p].travelTimer = none ∧ v.pos[p].discTimer = none ∧ v.pos[p].recTimer = none
    ∧ v.pos[p].tripLocked = (s.pos[p].tripLocked || c != .overlap) ∧ v.pos[p].bf = s.pos[p].bf
    ∧ (∃ n, v.router.active[p] = some ⟨c, [], c == .bfBackup, n, some s.set.pos[p].bfTime, parent⟩)
    ∧ (∀ q : Pos, q ≠ p → v.router.active[q] = s.router.active[q]) ∧ samePositionsBut p v s
    ∧ Handed.tripEngine p c ∈ v.inbox
    ∧ { v with pos := s.pos, feeds := s.feeds, link := s.link, inbox := s.inbox, router := s.router, lockAsk := s.lockAsk } = s

/-- A plan is started for a scenario (R50, R134): the engine RUNNING at step 0, the result record with the scenario as cause, every fitted
position of the plan under ENGINE, and nothing of the settings and modes changed. -/
abbrev scenarioStarted (s v : State) (c : Scenario) (slot : SlotIx) : Prop :=
  let set := Plan.posSet s.set.plans[slot]
  v.eng = { s.eng with
      state := .running, run := some ⟨slot, set, 0, .waitingToIssue⟩, stepTimer := .idle, poll := none, marks := {}
      result := some { slot := slot, cause := .scenario c, set := set, step := 0 } }
    ∧ (∀ p ∈ posMembers set, s.fitted p = true → v.auth.permits[p] = some .engine)
    ∧ v.base = s.base ∧ v.set = s.set ∧ v.modes = s.modes ∧ v.pending = s.pending

/-- The timeout of a step that waits for a condition, and the poll timer it starts with: WAIT_DEAD and REQUIRE_GEN are judged every 10 ms,
WAIT_HEALTHY at a monitor's change (R137, R142). -/
def Step.awaits : Step → Option (Nat × Timer)
  | .waitDead _ t | .requireGen _ t => some (t, some 10)
  | .waitHealthy _ t => some (t, none)
  | _ => none

/-- The condition of such a step stands (R142): no source feeds the bus and its channel (V2, V3, V4) gave 0.25 pu or less in the last round;
as many generators as the count are ONLINE; the monitor is HEALTHY. -/
def awaitedStands (s : State) : Step → Prop
  | .waitDead bus _ =>
    (∀ m, (s.feeds.get bus).has m = false)
      ∧ ∃ v, s.gaveVolt (match bus with
          | .a => 25
          | .b => 26
          | .n => 27) v ∧ v ≤ 250
  | .requireGen c _ => c ≤ (allGens.filter fun g => s.led.gens[g].state == .online).length
  | .waitHealthy m _ => (s.src.get m).state = .healthy
  | _ => False

/-- An entry of the synchronizer ends (R163, R164): the outcome list takes it, the oldest of 8 leaving, and the outcome is handed to the
block of its class. What became of the synchronizer otherwise is `rest`; `told` is what was handed on before. -/
abbrev entryEnded (s v : State) (rest : Sync) (e : SyncEntry) (oc : SyncOutcome) (d : Option SyncDetail) (told : List Handed) : Prop :=
  v.sync = { rest with
      counter := s.sync.counter + 1
      outcomes := (if 8 ≤ s.sync.outcomes.length then s.sync.outcomes.drop 1 else s.sync.outcomes)
        ++ [⟨s.sync.counter + 1, e, oc, d, s.base.timeBase⟩] }
    ∧ v.inbox = s.inbox ++ told ++ (match e.cls with
        | .engine => [.syncEngine e.pos oc]
        | .generator => [.syncLedger e.pos (some oc)]
        | .master => [])

/-- What a close pulse started at the trigger leaves of an attempt (R155). -/
abbrev closingAttempt (y : Sync) (a : Attempt) : Sync :=
  { y with
    state := .closing
    att := { a with attemptTimer := none, edgeRunning := none, edgeReference := none, periodTimer := none, outs := {}, live := false } }

/-- The joins and the protection unit as they start from a reset sample (R77, R96): each join that stands is recorded with the
lowest-numbered connecting tie and the full overlap time; forces AUTO, section blocks CLEAR, and for every position the computed group
active, none due, every element and block input clear. -/
def sampledBlocks (v : State) : Prop :=
  v.feeds = feedsOf v.pos
    ∧ (∀ j : JoinId, v.feeds.joined j = false → v.inter.joins.get j = none)
    ∧ (∀ j : JoinId, v.feeds.joined j = true →
        ∃ p ∈ ([2, 3, 4] : List Pos), v.pos[p].state.connecting = true
          ∧ (∀ q ∈ ([2, 3, 4] : List Pos), v.pos[q].state.connecting = true → p.val ≤ q.val)
          ∧ v.inter.joins.get j = some ⟨p, some v.set.overlapTime⟩)
    ∧ v.prot.forceA = .auto ∧ v.prot.forceB = .auto ∧ v.prot.blockA = {} ∧ v.prot.blockB = {}
    ∧ ∀ p : Pos, v.prot.recs[p]
        = { active := computedGroup .auto .auto v.feeds p, due := none, read := {}, frozen := false, inst := ⟨false, false, 0⟩
            time := ⟨false, false, 0⟩, ground := ⟨false, false, 0⟩, rev := ⟨false, false, 0⟩, blockInput := false }

/-- The station link after a reset (R191): both ports ACTIVE with both counts at 0, nothing queued, due or being sent, every notice set
empty, no last-used port. The beacon's number and timer are the two arguments. -/
def freshStation (l : Link) (number : BitVec 16) (timer : Timer) : Prop :=
  (∀ i : PortIx, l.ports[i]
      = { rx := 0, tx := 0, silent := false, replies := [], dropped := false, beacons := [], sending := none, kept := none })
    ∧ (∀ m : MasterIx, l.pendingSets[m] = 0 ∧ l.lastPort[m] = none) ∧ l.noticeDue = [] ∧ l.beaconNumber = number
    ∧ l.beaconTimer = timer

end Sys2Proof.Machine
end

