-- ==== Sys2Proof/Certificates/Slice0/Obligations.lean ====
section
/-! DEFINITION. The statements about this machine. A command's own effect is stated on the state it makes before what it hands on is
taken; `finish` takes that, and does nothing on a calm state (CalmStateIsFinished). -/

section

open Sys2Proof Sys2Proof.Machine

/-! ### The step -/

/-- The step runs the command at the front of the queue on the state with the rest of the queue. -/
def Obligations.StepRunsTheFrontCommand : Prop :=
  ∀ (c : Instr) (rest : List Instr) (s : State), step { s with pending := c :: rest } = exec c { s with pending := rest }

/-- The step on an empty queue is one millisecond of the clock: the model's choice (log 1), with the time base of R33. A calm state has
nothing left to take: the end of a command leaves it as it is (log 4, log 5). -/
def Obligations.IdleStepAndCalmState : Prop :=
  (∀ s : State, s.pending = [] →
      step s = .next s.tick ∧ (s.base.phase = .off → s.tick = s)
        ∧ (s.base.phase ≠ .off → s.tick.base.timeBase = s.base.timeBase + 1))
  ∧ (∀ s : State, s.calm → s.finish = s)

/-- No rule of the manual stops the machine: every command answers a next state, with the queue as it stood. -/
def Obligations.EveryCommandCompletes : Prop := ∀ (c : Instr) (s : State), ∃ t : State, exec c s = .next t ∧ t.pending = s.pending

/-! ### Section 1 -/

/-- Feed sets by chains of direct connections, over the connecting positions and the CLOSED generator breakers of the position table; buses
that reach one another have equal feed sets (R19). -/
def Obligations.FeedSetsFollowConnections : Prop :=
  (∀ (conn : Pos → Bool) (g : Bool) (x : Bus) (m : Source),
    ((feedSets conn g).get x).has m = true ↔ ∃ y, Reaches conn x y ∧ attached conn g y m = true)
  ∧ (∀ (conn : Pos → Bool) (g : Bool) (x y : Bus), Reaches conn x y → (feedSets conn g).get x = (feedSets conn g).get y)
  ∧ ∀ pos : Vector PosRec 23,
      feedsOf pos
        = feedSets (fun p => pos[p].state == .closed || pos[p].state == .openPulse || pos[p].state == .tripPulse)
          (genBreakers.any fun p => pos[p].state == .closed)

/-- The three conditions of a close pulse in their order, the one of an open pulse, and none where no drive is started (R9). -/
def Obligations.PulseConditionsInOrder : Prop :=
  ∀ (s : State) (p : Pos) (o : Origin) (req : Option MasterIx),
    let barred := (∃ m, s.auth.permits[p] = some (.maintenance m) ∧ (o = .engine ∨ o = .ledger ∨ (o = .group ∧ req ≠ some m)))
    let locked := s.pos[p].tripLocked = true ∨ s.pos[p].bf = true
    (s.pos[p].state = .opened → locked → s.closeRequest p o req = (.refused .tripLocked, s))
    ∧ (s.pos[p].state = .opened → ¬ locked → s.modes.mode ≠ .run → s.closeRequest p o req = (.refused .hold, s))
    ∧ (s.pos[p].state = .opened → ¬ locked → s.modes.mode = .run → barred → s.closeRequest p o req = (.refused .maint, s))
    ∧ (s.pos[p].state = .opened → ¬ locked → s.modes.mode = .run → ¬ barred → (s.closeRequest p o req).1 = .started)
    ∧ (s.pos[p].state = .closed → barred → s.openRequest p o req = (.refused .maint, s))
    ∧ (s.pos[p].state = .closed → ¬ barred → (s.openRequest p o req).1 = .started)
    ∧ (s.pos[p].state = .closed → (s.closeRequest p o req).1 = .atOnce)
    ∧ (s.pos[p].state = .opened → (s.openRequest p o req).1 = .atOnce)

/-- A contact change of a fitted position: the pair is decoded and acted on for the present state; the supervision and recovery timers
start, run on or stop with the new feedback (R4 to R7); a pulse that ends leaves its outcome in the record, and a trip pulse its
clearing in the fault record too (R10, R12, R14 to R17, R104). Of an unfitted position the line alone changes (R1). -/
def Obligations.ContactChangeActsOnState : Prop :=
  ∀ (s : State) (p : Pos) (a b : Bool),
    (s.base.phase = .running → s.fitted p = true → s.set.pos[p].fitted = true → decodeContacts a b ≠ s.pos[p].feedback →
      ∃ u : State, exec (.contactChange p a b) s = .next u.finish
        ∧ u.base = { s.base with contacts := s.base.contacts.set p (a, b) }
        ∧ u.pos[p].feedback = decodeContacts a b
        ∧ u.pos[p].state = (match s.pos[p].state, decodeContacts a b with
            | .opened, .closed => .closed
            | .closePulse, .closed => .closed
            | .closed, .opened => .opened
            | .openPulse, .opened => .opened
            | .tripPulse, .opened => .opened
            | x, _ => x)
        ∧ (s.pos[p].state = .opened → decodeContacts a b = .closed → u.pos[p].lastKind = .uncommandedClose)
        ∧ (s.pos[p].state = .closed → decodeContacts a b = .opened → u.pos[p].lastKind = .uncommandedOpen)
        ∧ samePositionsBut p u s
        ∧ (s.pos[p].state.supervised = true →
            u.pos[p].travelTimer = (if (decodeContacts a b).valid then none
              else if s.pos[p].feedback.valid then some s.set.pos[p].travelLimit else s.pos[p].travelTimer)
            ∧ u.pos[p].discTimer = (if decodeContacts a b = .discrepancy then some 30 else none)
            ∧ u.pos[p].recTimer = s.pos[p].recTimer)
        ∧ (s.pos[p].state = .faulty →
            u.pos[p].recTimer = (if (decodeContacts a b).valid then some 100 else none)
            ∧ u.pos[p].travelTimer = s.pos[p].travelTimer ∧ u.pos[p].discTimer = s.pos[p].discTimer)
        ∧ (s.pos[p].state.inFlight = true → u.pos[p].state.inFlight = false →
            u.pos[p].origin = none ∧ u.pos[p].requester = none ∧ u.pos[p].closeTimer = none ∧ u.pos[p].openTimer = none)
        ∧ (∀ o, s.pos[p].origin = some o →
            (s.pos[p].state = .closePulse → decodeContacts a b = .closed → u.pos[p].lastOutcome = some (.closedDone, o))
            ∧ (s.pos[p].state = .openPulse → decodeContacts a b = .opened → u.pos[p].lastOutcome = some (.openedDone, o)))
        ∧ (s.pos[p].state = .tripPulse → decodeContacts a b = .opened →
            u.pos[p].lastOutcome = some (.openedDone, .trip) ∧ u.router.active[p] = none
            ∧ ∀ t n, s.router.active[p] = some t → t.record = some n →
                u.router.ring = s.router.ring.map fun r =>
                  if r.seq = n then { r with outcome := .cleared (duration s.base.timeBase r.stamp) } else r))
    ∧ (s.fitted p = false →
        exec (.contactChange p a b) s
          = .next (State.finish { s with base := { s.base with contacts := s.base.contacts.set p (a, b) } }))

/-- Travel and discrepancy expiry make the position FAULTY, from any of the four states in which the timers run (R5, R6, Table 1.5). -/
def Obligations.SupervisionExpiryMakesFaulty : Prop :=
  ∀ (s : State) (p : Pos), s.pos[p].state.supervised = true → s.set.pos[p].fitted = true →
    (s.pos[p].travelTimer = some 0 →
      ∃ u : State, exec (.travelTimerExpiry p) s = .next u.finish ∧ u.pos[p].state = .faulty ∧ u.pos[p].lastKind = .travelFault
        ∧ faultyAtRest u.pos[p] ∧ samePositionsBut p u s
        ∧ ∀ o, s.pos[p].origin = some o →
            (s.pos[p].state = .closePulse → u.pos[p].lastOutcome = some (.closeFail, o))
            ∧ (s.pos[p].state = .openPulse → u.pos[p].lastOutcome = some (.openFail, o)))
    ∧ (s.pos[p].discTimer = some 0 →
      ∃ u : State, exec (.discrepancyTimerExpiry p) s = .next u.finish ∧ u.pos[p].state = .faulty ∧ u.pos[p].lastKind = .discrepancy
        ∧ faultyAtRest u.pos[p] ∧ samePositionsBut p u s
        ∧ ∀ o, s.pos[p].origin = some o →
            (s.pos[p].state = .closePulse → u.pos[p].lastOutcome = some (.closeFail, o))
            ∧ (s.pos[p].state = .openPulse → u.pos[p].lastOutcome = some (.openFail, o)))

/-- Recovery, close and open timer expiry (R7, R10). A fitted flag cleared while a pulse was in flight is taken at the event that ends the
pulse; at rest a change of the flag is taken at once: a position that becomes unfitted has its timers cancelled and its elements cleared
(R78), and one that becomes fitted is decoded afresh from its contact pair (R18). -/
def Obligations.PulseRecoveryAndFitting : Prop :=
  (∀ (s : State) (p : Pos),
      (s.pos[p].state = .faulty → s.pos[p].recTimer = some 0 → s.pos[p].feedback.valid = true →
        ∃ u : State, exec (.recoveryTimerExpiry p) s = .next u.finish
          ∧ u.pos[p].state = (if s.pos[p].feedback = .closed then .closed else .opened)
          ∧ u.pos[p].lastKind = .recovered ∧ u.pos[p].recTimer = none ∧ samePositionsBut p u s)
      ∧ (s.pos[p].state = .closePulse → s.pos[p].closeTimer = some 0 → s.set.pos[p].fitted = true →
        ∃ u : State, exec (.closeTimerExpiry p) s = .next u.finish ∧ u.pos[p].state = .opened ∧ u.pos[p].lastKind = .commanded
          ∧ u.pos[p].closeTimer = none ∧ u.pos[p].travelTimer = s.pos[p].travelTimer ∧ u.pos[p].discTimer = s.pos[p].discTimer
          ∧ u.pos[p].origin = none ∧ u.pos[p].requester = none ∧ samePositionsBut p u s
          ∧ ∀ o, s.pos[p].origin = some o → u.pos[p].lastOutcome = some (.closeFail, o))
      ∧ (s.pos[p].state = .openPulse → s.pos[p].openTimer = some 0 → s.set.pos[p].fitted = true →
        ∃ u : State, exec (.openTimerExpiry p) s = .next u.finish ∧ u.pos[p].state = .faulty ∧ u.pos[p].lastKind = .openFail
          ∧ faultyAtRest u.pos[p] ∧ samePositionsBut p u s ∧ u.pos[p].bf = s.pos[p].bf
          ∧ ∀ o, s.pos[p].origin = some o → u.pos[p].lastOutcome = some (.openFail, o)))
  ∧ (∀ (s : State) (p : Pos), s.set.pos[p].fitted = false →
      (s.pos[p].state.inFlight = true → s.takeFitting p = s)
      ∧ (s.pos[p].state = .closePulse → s.pos[p].closeTimer = some 0 →
          ∃ u : State, exec (.closeTimerExpiry p) s = .next u.finish ∧ u.pos[p].state = .unfitted ∧ u.pos[p].lastKind = .fitting
            ∧ u.pos[p].tripLocked = s.pos[p].tripLocked ∧ u.pos[p].bf = s.pos[p].bf ∧ u.pos[p].shed = s.pos[p].shed
            ∧ u.pos[p].travelTimer = none ∧ u.pos[p].discTimer = none))
  ∧ ∀ (s : State) (p : Pos), s.pos[p].state.inFlight = false →
      let u := s.takeFitting p
      (s.set.pos[p].fitted = s.fitted p → u = s)
      ∧ (s.set.pos[p].fitted = false → s.fitted p = true →
          u.pos[p] = { s.pos[p] with
              state := .unfitted, closeTimer := none, openTimer := none, travelTimer := none, discTimer := none, recTimer := none
              lastKind := .fitting, lastStamp := s.base.timeBase }
          ∧ samePositionsBut p u s ∧ u.feeds = feedsOf u.pos
          ∧ u.prot.recs[p] = { s.prot.recs[p] with inst := {}, time := {}, ground := {}, rev := {} }
          ∧ (∀ q : Pos, q ≠ p → u.prot.recs[q] = s.prot.recs[q])
          ∧ { u with pos := s.pos, feeds := s.feeds, prot := s.prot, link := s.link, inbox := s.inbox } = s)
      ∧ (s.set.pos[p].fitted = true → s.fitted p = false →
          let fb := decodeContacts s.base.contacts[p].1 s.base.contacts[p].2
          u.pos[p] = { s.pos[p] with
              state := fb.restState, feedback := fb, lastKind := .fitting, lastStamp := s.base.timeBase }
          ∧ samePositionsBut p u s ∧ u.feeds = feedsOf u.pos
          ∧ { u with pos := s.pos, feeds := s.feeds, link := s.link, inbox := s.inbox } = s)

/-! ### Section 2 -/

/-- A valid data frame fills the slot of its channel and nothing else; an invalid one leaves no trace (R23, R25). A frame is read by Table
11.10 (R192), its fields brought into their stored ranges and a frequency outside 40 to 70 Hz absent (R24); a marker is kind 1 alone; a
frame whose check does not match, of a channel above 33, of another length than its kind has, or of a power direction that is neither
value is discarded (R23). That a frame whose kind byte is neither 0 nor 1 is discarded too, as the marker and the data clauses have it, is
the model's choice (log 41). -/
def Obligations.DataFrameFillsItsSlot : Prop :=
  (∀ (c : Chan) (a b : Nat), a < 65536 → b < 65536 →
      let bytes := withCheck (0 :: BitVec.ofNat 8 c.val :: (be 2 a ++ be 2 b))
      (c.val ≤ 4 ∨ (11 ≤ c.val ∧ c.val ≤ 22) → parseMeas bytes = some (.data c (.current (min a 4000) (min b 4000))))
      ∧ (23 ≤ c.val →
          parseMeas bytes = some (.data c (.voltage (min a 1500) (if 4000 ≤ b ∧ b ≤ 7000 then some b else none))))
      ∧ (5 ≤ c.val → c.val ≤ 10 → parseMeas bytes = none ∧ ∀ (d : Byte) (w : Nat), w < 65536 →
          let frame := withCheck (0 :: BitVec.ofNat 8 c.val :: (be 2 a ++ be 2 b ++ [d] ++ be 2 w))
          (∀ reverse : Bool, d = (if reverse then 1 else 0) →
            parseMeas frame = some (.data c (.genCurrent (min a 4000) (min b 4000) reverse (min w 500))))
          ∧ (d ≠ 0 → d ≠ 1 → parseMeas frame = none)))
  ∧ (∀ body : List Byte,
      (parseMeas (withCheck body) = some .marker ↔ body = [1])
      ∧ (∀ c v, parseMeas (withCheck body) = some (.data c v) →
          body.length = (if 5 ≤ c.val ∧ c.val ≤ 10 then 9 else 6) ∧ body.take 2 = [0, BitVec.ofNat 8 c.val]))
  ∧ (∀ bytes : List Byte, (∀ body, bytes ≠ withCheck body) → parseMeas bytes = none)
  ∧ ∀ (s : State) (bytes : List Byte), s.base.phase = .running →
    (∀ ch v, parseMeas bytes = some (.data ch v) →
      exec (.measurementDataFrame bytes) s
        = .next (State.finish { s with meas := { s.meas with slots := s.meas.slots.set ch (some v) } }))
    ∧ (parseMeas bytes = none → exec (.measurementDataFrame bytes) s = .next s.finish)

/-- A valid marker makes the boundary when a slot holds a frame, the round timer makes it whatever they hold, and a marker that finds every
slot empty is discarded (R26 to R28). A channel whose absence count has reached 3 enters MEAS_LOST (R29) and is handed to the unit
that freezes its elements (R93) or the monitor it holds (R121). That the row does this by itself, where the boundary does it with the
round it delivers, is the model's reading (log 6); the protection unit and the monitors act when they take what is handed. -/
def Obligations.BoundariesAndMeasLost : Prop :=
  (∀ (s : State) (bytes : List Byte),
      (s.base.phase = .running → parseMeas bytes = some .marker → (∃ c : Chan, s.meas.slots[c] ≠ none) →
        ∃ u : State, exec (.endOfRound bytes) s = .next u.finish ∧ boundaryMade s true u)
      ∧ (s.base.phase = .running → parseMeas bytes = some .marker → (∀ c : Chan, s.meas.slots[c] = none) →
          exec (.endOfRound bytes) s = .next s.finish)
      ∧ (s.meas.roundTimer = some 0 → ∃ u : State, exec .roundTimerExpiry s = .next u.finish ∧ boundaryMade s false u))
  ∧ (∀ (s : State) (c : Chan), s.meas.chans[c].absence = 3 → s.meas.chans[c].status ≠ .measLost →
      ∃ u : State, exec (.measLostEntry c) s = .next u.finish ∧ u.meas.chans[c] = { s.meas.chans[c] with status := .measLost }
        ∧ (∀ d : Chan, d ≠ c → u.meas.chans[d] = s.meas.chans[d]) ∧ u.meas.slots = s.meas.slots
        ∧ u.meas.round = s.meas.round.map (fun i => { i with entered := i.entered ++ [c] })
        ∧ u.inbox = s.inbox ++ (if c.val < 23 then [.lostProtection c] else if c = 23 then [.lostMonitor .ua]
            else if c = 24 then [.lostMonitor .ub] else if c = 27 then [.lostMonitor .gb] else [])
        ∧ { u with meas := s.meas, inbox := s.inbox } = s)

/-! ### Section 3 -/

/-- A claim whose every position is free or the requester's own of that kind is granted whole, with full leases (R41, R42). A claim that
cannot be granted whole waits at the tail when its wait flag is set and there is room (R43). -/
def Obligations.ClaimGrantedOrWaiting : Prop :=
  (∀ (s : State) (q : Req) (m : MasterIx) (mask : PosMask) (kind : Nat) (k : PermitKind) (wait : Bool) (time : Nat),
      s.hears q m → permitKindOf kind = some k → mask ≠ 0 → (wait = true → time ≤ 30) → s.modes.mode = .run →
      (∀ p ∈ posMembers mask, (s.roleOf m).mayHold k p = true ∧ s.fitted p = true ∧ s.grantable m k p = true) →
      (∀ e ∈ s.auth.waits, e.requester ≠ m) →
        ∃ u : State, exec (.permitReq q mask kind wait time) s = .next (u.answered q 3 { code := .done })
          ∧ (∀ p : Pos, u.auth.permits[p]
              = if mask.getLsbD p.val then
                  some (match k with
                    | .operate => .operate m (some (s.set.leaseLength * 1000))
                    | .maintenance => .maintenance m)
                else s.auth.permits[p])
          ∧ u.auth.waits = s.auth.waits ∧ u.auth.news = s.auth.news ∧ { u with auth := s.auth, link := s.link } = s)
  ∧ (∀ (s : State) (q : Req) (m : MasterIx) (mask : PosMask) (kind : Nat) (k : PermitKind) (time : Nat),
      s.hears q m → permitKindOf kind = some k → mask ≠ 0 → time ≤ 30 → s.modes.mode = .run →
      (∀ p ∈ posMembers mask, (s.roleOf m).mayHold k p = true ∧ s.fitted p = true) →
      (∀ e ∈ s.auth.waits, e.requester ≠ m) → (∃ p ∈ posMembers mask, s.grantable m k p = false) →
        (s.auth.waits.length < 16 →
          ∃ u : State, exec (.permitReq q mask kind true time) s = .next (u.answered q 3 { code := .queued })
            ∧ u.auth = { s.auth with waits := s.auth.waits
                ++ [⟨m, mask, k, some ((if time = 0 then s.set.defaultWait else time) * 1000)⟩] }
            ∧ { u with auth := s.auth, link := s.link } = s)
        ∧ (16 ≤ s.auth.waits.length →
          exec (.permitReq q mask kind true time) s = .next ((s.notePort q).answered q 3 { code := .waitFull })))

/-- A release frees what the requester holds and withdraws its entry; a renewal starts its OPERATE leases again (R48, R49). -/
def Obligations.ReleaseAndRenewal : Prop :=
  ∀ (s : State) (q : Req) (m : MasterIx) (mask : PosMask), s.hears q m →
    (∀ withdraw : Bool, (mask ≠ 0 ∨ withdraw = true) →
      ∃ v : State, (∀ p : Pos, v.auth.permits[p] = if mask.getLsbD p.val && s.holds m p then none else s.auth.permits[p])
        ∧ v.auth.waits = (if withdraw then s.auth.waits.filter fun e => e.requester != m else s.auth.waits)
        ∧ v.auth.news = s.auth.news ∧ { v with auth := s.auth, link := s.link } = s
        ∧ exec (.permitRelease q mask withdraw) s
          = .next (State.answered
              (if (∃ p ∈ posMembers mask, s.holds m p = true) ∨ (withdraw = true ∧ ∃ e ∈ s.auth.waits, e.requester = m) then v.scan
               else v)
              q 4 (heldAnswer (maskOf ((posMembers mask).filter fun p => !s.holds m p)))))
    ∧ (mask ≠ 0 →
      ∃ u : State, exec (.permitRenew q mask) s
          = .next (u.answered q 5 (heldAnswer (maskOf ((posMembers mask).filter fun p => !s.holds m p))))
        ∧ (∀ p : Pos, u.auth.permits[p]
            = if mask.getLsbD p.val then
                (match s.auth.permits[p] with
                  | some (.operate h old) => some (.operate h (if h = m then some (s.set.leaseLength * 1000) else old))
                  | x => x)
              else s.auth.permits[p])
        ∧ u.auth.waits = s.auth.waits ∧ u.auth.news = s.auth.news ∧ { u with auth := s.auth, link := s.link } = s)

/-- Lease expiry frees the permit with EXPIRED news; wait expiry removes the entry with TIMED_OUT news; the list is then scanned (R39, R46,
R53). A news entry takes the risen counter as its number and joins at the end of a list of at most eight, the oldest leaving (R53). -/
def Obligations.LeaseAndWaitExpiryWithNews : Prop :=
  ((∀ (s : State) (p : Pos) (m : MasterIx), s.auth.permits[p] = some (.operate m (some 0)) →
      exec (.leaseExpiry p) s
        = .next ((State.pushNews { s with auth := { s.auth with permits := s.auth.permits.set p none } } m .expired (maskOf [p]) 0
            none).scan).finish)
    ∧ ∀ (s : State) (e : WaitEntry), e ∈ s.auth.waits → e.wait = some 0 →
        (∀ x ∈ s.auth.waits, x.requester = e.requester → x = e) →
        exec (.waitTimerExpiry e.requester) s
          = .next ((State.pushKindNews
              { s with auth := { s.auth with waits := s.auth.waits.filter fun x => x.requester != e.requester } } e.requester .timedOut
              e.kind e.mask none).scan).finish)
  ∧ (∀ (s : State) (m : MasterIx) (oc : NewsOutcome) (o mt : PosMask) (cause : Option NewsCause), s.auth.news[m].list.length ≤ 8 →
      let b := (s.pushNews m oc o mt cause).auth.news[m]
      b.counter = s.auth.news[m].counter + 1 ∧ b.list.length ≤ 8 ∧ b.list.getLast? = some ⟨b.counter, oc, o, mt, cause⟩
        ∧ (s.auth.news[m].list.length < 8 → b.list.dropLast = s.auth.news[m].list)
        ∧ (s.auth.news[m].list.length = 8 → b.list.dropLast = s.auth.news[m].list.drop 1))

/-- The rule of no overtaking on overlap: an entry that stays in the list at a scan keeps there every younger entry that wants any of the
same positions (R44). What a scan leaves of the list is a part of it in its order, and every entry it takes off has all its positions
under its requester with its kind (R44, R45). In RUN an entry whose positions are all grantable and wanted by no older entry is granted:
it leaves the list, and its requester gets GRANTED news with its mask and kind (R44, R45, R53); in another mode nothing is granted, as on
entry to HOLD no scan is made (R45, R52). -/
def Obligations.WaitListScan : Prop :=
  (∀ (s : State) (xs ys zs : List WaitEntry) (e y : WaitEntry),
      s.auth.waits = xs ++ e :: ys ++ y :: zs → (s.auth.waits.map (·.requester)).Nodup → e.mask &&& y.mask ≠ 0 →
      e ∈ s.scan.auth.waits → y ∈ s.scan.auth.waits)
  ∧ (∀ s : State, s.scan.auth.waits.Sublist s.auth.waits
      ∧ ∀ e ∈ s.auth.waits, e ∉ s.scan.auth.waits → ∀ p ∈ posMembers e.mask,
          s.scan.auth.permits[p] = some (match e.kind with
            | .operate => .operate e.requester (some (s.set.leaseLength * 1000))
            | .maintenance => .maintenance e.requester))
  ∧ (∀ s : State, s.modes.mode ≠ .run → s.scan = s)
  ∧ ∀ (s : State) (xs ys : List WaitEntry) (e : WaitEntry), s.modes.mode = .run → s.auth.waits = xs ++ e :: ys →
      (s.auth.waits.map (·.requester)).Nodup → (∀ x ∈ xs, x.mask &&& e.mask = 0) →
      (∀ p ∈ posMembers e.mask, s.grantable e.requester e.kind p = true) →
        e ∉ s.scan.auth.waits ∧ s.scan.auth.news[e.requester]
          = ((match e.kind with
              | .operate => s.pushNews e.requester .granted e.mask 0 none
              | .maintenance => s.pushNews e.requester .granted 0 e.mask none) : State).auth.news[e.requester]

/-- How a request is answered (R36, R184, R185): a part that does not take it changes nothing; a full queue sets the dropped flag of the
port; a sender that matches no entry is answered ROLE; and a reply is queued for the port of arrival with the request's own tag. -/
def Obligations.RequestsAreAnswered : Prop :=
  ∀ (s : State) (q : Req) (ident : Nat) (f : MasterIx → State → Answer × State),
    (s.accepts q = false → s.serve q ident f = s)
    ∧ (s.accepts q = true → s.queueFull q = true →
        s.serve q ident f = (s.notePort q).updPort q.port fun r => { r with dropped := true })
    ∧ (s.accepts q = true → s.queueFull q = false → s.matchMaster q.sender = none →
        s.serve q ident f = (s.notePort q).queueReply ⟨q, ident⟩ { code := .role })
    ∧ (∀ m, s.hears q m →
        s.serve q ident f = (f m (s.notePort q)).2.queueReply ⟨q, ident⟩ (f m (s.notePort q)).1)
    ∧ ∀ a : Answer, s.link.ports[q.port].silent = false →
        (s.queueReply ⟨q, ident⟩ a).link.ports[q.port].replies
            = s.link.ports[q.port].replies ++ [⟨q.sender, q.tag, ident, a.payload⟩]
          ∧ a.payload.take 1 = [BitVec.ofNat 8 a.code.code] ∧ a.payload.drop 2 = a.data.take 8

/-! ### Section 5 -/

/-- An element whose condition is met operates: its operated flag is set and its trip is requested with the value it judged and the active
group (R81, R82, R84 to R86). The delay is the one the latest boundary read (R92). The row acts when the condition stands (log 6). -/
def Obligations.ElementOperates : Prop :=
  ∀ (s : State) (p : Pos) (e : Element),
    let r := s.prot.recs[p]
    let g := r.read
    let need := match e with
      | .inst => if p.val ≤ 4 ∧ r.blockInput = true then 15 else 2
      | .time => 60000
      | .ground => g.groundDelay
      | .reversePower => g.revDelay
    s.fitted p = true → (e = .reversePower → 5 ≤ p.val ∧ p.val ≤ 10) → r.frozen = false → (r.elem e).pickup = true →
      (r.elem e).operated = false → need ≤ (r.elem e).count →
      let v := { s with prot := { s.prot with recs := s.prot.recs.set p (r.putElem e { r.elem e with operated := true }) } }
      let value := (s.entry (currentChan p)).map fun x => match e with
        | .inst | .time => x.phase
        | .ground => x.ground
        | .reversePower => x.power
      exec (.elementOperate p e) s = .next (v.tripRequest p (causeOf e) value r.active none).finish
        ∧ (v.tripRequest p (causeOf e) value r.active none).prot = v.prot

/-- The elements at a round boundary (R79). Stages 1 to 4 adopt the group due, read the settings of the active group, follow the channel's
MEAS_LOST with the freeze, and set the pickup flags from the frame, keeping counts and operated flags (R81 to R85, R90, R92, R93). Stage
5 advances the counts and sets the operated flags; a round without a frame keeps I>> and I> and sets the round counts to 0, a frozen
position holds all (R80 to R85, R93), and an I>> with pickup OFF has count 0 and no operated flag at every boundary (R81; log 27). The
positions come in a free order (R79). The step of the time curve is the increment of the highest band reached, times 10, divided by the
time multiplier and at least 1; at any current below pickup the accumulator is reset or decays, by the reset mode (R82, R83). A channel that enters MEAS_LOST between
boundaries freezes its position with every pickup flag clear (R93; log 6). -/
def Obligations.ElementsAtTheBoundary : Prop :=
  (∀ (s : State) (p : Pos),
      let u := s.judgePickups
      let r := s.prot.recs[p]
      let x := u.prot.recs[p]
      x.active = r.due.getD r.active ∧ x.due = none ∧ x.read = s.set.pos[p].group x.active
        ∧ (x.frozen = true ↔ s.meas.chans[currentChan p].status = .measLost)
        ∧ (∀ e : Element, (x.elem e).count = (r.elem e).count ∧ (x.elem e).operated = (r.elem e).operated)
        ∧ (s.fitted p = true → s.entry (currentChan p) = none → ∀ e : Element, (x.elem e).pickup = false)
        ∧ (∀ v, s.fitted p = true → s.entry (currentChan p) = some v →
            (x.inst.pickup = true ↔ ∃ k, x.read.instPickup = some k ∧ k < v.phase)
            ∧ (x.time.pickup = true ↔ x.read.timePickup ≤ v.phase) ∧ (x.ground.pickup = true ↔ x.read.groundPickup ≤ v.ground)
            ∧ (x.rev.pickup = true ↔ 5 ≤ p.val ∧ p.val ≤ 10 ∧ v.reverse = true ∧ x.read.revPickup < v.power))
        ∧ { u with prot := s.prot, link := s.link } = s)
  ∧ (∀ (s : State) (p : Pos),
      let r := s.prot.recs[p]
      let x := (s.operatePos p).prot.recs[p]
      let inst : ElemRec := if r.read.instPickup = none then { r.inst with count := 0, operated := false } else r.inst
      (s.fitted p = false → s.operatePos p = s)
      ∧ (s.fitted p = true → r.frozen = true → x = { r with inst := inst })
      ∧ (s.fitted p = true → r.frozen = false → s.entry (currentChan p) = none →
          x = { r with inst := inst, ground := { r.ground with count := 0 }, rev := { r.rev with count := 0 } })
      ∧ (∀ v, s.fitted p = true → r.frozen = false → s.entry (currentChan p) = some v →
          x.inst.count = (if r.read.instPickup ≠ none ∧ r.inst.pickup = true then min 255 (r.inst.count + 1) else 0)
          ∧ x.time.count = (if r.time.pickup then min 65535 (r.time.count + timeStep r.read v.phase)
              else if r.read.resetMode = .instant then 0 else r.time.count - r.read.decayStep)
          ∧ x.ground.count = (if r.ground.pickup then min 1000 (r.ground.count + 1) else 0)
          ∧ x.rev.count = (if r.rev.pickup then min 1000 (r.rev.count + 1) else 0)
          ∧ ∀ e : Element, (e = .reversePower → 5 ≤ p.val ∧ p.val ≤ 10) → (e = .inst → r.read.instPickup ≠ none) →
              let need := match e with
                | .inst => if p.val ≤ 4 ∧ r.blockInput = true then 15 else 2
                | .time => 60000
                | .ground => r.read.groundDelay
                | .reversePower => r.read.revDelay
              ((x.elem e).operated = true
                ↔ (r.elem e).pickup = true ∧ ((r.elem e).operated = true ∨ need ≤ (x.elem e).count))))
  ∧ (∀ s : State, ∃ (ps : List Pos) (v : State), ps.Perm allPos
      ∧ { s.judgePickups with choices := v.choices, choiceCount := v.choiceCount } = v
      ∧ s.protectionRound = ps.foldl State.operatePos v)
  ∧ (∀ (s : State) (p : Pos), s.meas.chans[currentChan p].status = .measLost →
      let u := s.channelLost (currentChan p)
      u.prot.recs[p] = { s.prot.recs[p].noPickups with frozen := true } ∧ (∀ q : Pos, q ≠ p → u.prot.recs[q] = s.prot.recs[q])
        ∧ { u with prot := s.prot, link := s.link } = s)
  ∧ (∀ (e : ElemSettings) (current : Nat), 0 < e.timePickup → e.timePickup ≤ current → e.curve ≤ 3 →
      ∃ band : Fin 16,
        (bandBounds.getD band.val 0) * e.timePickup ≤ current * 10
          ∧ (∀ k : Fin 16, band < k → current * 10 < bandBounds.getD k.val 0 * e.timePickup)
          ∧ timeStep e current = max 1 ((curveTable e.curve).getD band.val 0 * 10 / e.timeMult))
  ∧ ∀ (e : ElemSettings) (current : Nat) (x : ElemRec),
      (x.pickup = true → (x.runTime e current).count = min 65535 (x.count + timeStep e current)
        ∧ (x.runTime e current).operated = x.operated)
      ∧ (x.pickup = false → (x.runTime e current).operated = false
        ∧ (x.runTime e current).count = if e.resetMode = .instant then 0 else x.count - e.decayStep)

/-- The section block: raised while a fitted feeder of the section picks up, held for five boundaries after, and then clear (R87). The row
acts when a boundary has brought the hold to 0, with the block inputs of positions 0 to 4 following (log 6). -/
def Obligations.SectionBlockHolds : Prop :=
  ∀ (s : State) (sec : BusSec),
    (s.feederPickup sec = true → (s.updateBlock sec).prot.block sec = { raised := true })
    ∧ (s.feederPickup sec = false → (s.prot.block sec).raised = false → s.updateBlock sec = s)
    ∧ (s.feederPickup sec = false → (s.prot.block sec).raised = true →
        (s.updateBlock sec).prot.block sec
          = (if (s.prot.block sec).hold = 0 then { raised := true, hold := 5 }
             else if (s.prot.block sec).hold = 1 then {} else { raised := true, hold := (s.prot.block sec).hold - 1 }))
    ∧ ((s.prot.block sec).spent = true →
        ∃ u : State, exec (.zoneHoldExpiry sec) s = .next u.finish ∧ u.prot.block sec = {}
          ∧ (∀ x, x ≠ sec → u.prot.block x = s.prot.block x)
          ∧ (∀ p : Pos, u.prot.recs[p] = { s.prot.recs[p] with
              blockInput := match p.val with
                | 0 | 3 => u.prot.blockA.raised
                | 1 | 4 => u.prot.blockB.raised
                | 2 => u.prot.blockA.raised || u.prot.blockB.raised
                | _ => s.prot.recs[p].blockInput })
          ∧ u.prot.forceA = s.prot.forceA ∧ u.prot.forceB = s.prot.forceB ∧ { u with prot := s.prot, link := s.link } = s)
    ∧ ((s.prot.block sec).spent = false → exec (.zoneHoldExpiry sec) s = .next s.finish)

/-- GROUP_FORCE sets the force of its section and finds the due group of every position again; the active groups stay (R89 to R91). -/
def Obligations.GroupForceStagesGroups : Prop :=
  ∀ (s : State) (q : Req) (m : MasterIx) (sec : BusSec) (n : Fin 3), s.hears q m →
    (s.roleOf m = .stationA ∨ s.roleOf m = .stationB ∨ s.roleOf m = .maint) →
    let cmd := Instr.groupForce q (if sec = .a then 0 else 1) n.val
    let f : Force := match n.val with
      | 0 => .g1
      | 1 => .g2
      | _ => .auto
    (s.base.guard = 0 →
      ∃ u : State, exec cmd s = .next (u.answered q 17 { code := .done })
        ∧ (sec = .a → u.prot.forceA = f ∧ u.prot.forceB = s.prot.forceB)
        ∧ (sec = .b → u.prot.forceB = f ∧ u.prot.forceA = s.prot.forceA)
        ∧ (∀ p : Pos, u.prot.recs[p].active = s.prot.recs[p].active
            ∧ u.prot.recs[p].due
              = (let g := computedGroup u.prot.forceA u.prot.forceB s.feeds p
                 if g = s.prot.recs[p].active then none else some g))
        ∧ { u with prot := s.prot, link := s.link } = s)
    ∧ (1 ≤ s.base.guard → exec cmd s = .next ((s.notePort q).answered q 17 { code := .guard }))

/-! ### Section 6 -/

/-- A trip request by the state of its position: nothing for an UNFITTED one; at once, with no drive, for an OPEN or FAULTY one whose
breaker shows open; a trip pulse otherwise; and a secondary cause in TRIP_PULSE (R11, R98 to R101). -/
def Obligations.TripRequestByState : Prop :=
  ∀ (s : State) (p : Pos) (c : TripCause) (parent : Option (BitVec 16)),
    (s.pos[p].state = .unfitted → s.tripPlain p c parent = s)
    ∧ ((s.pos[p].state = .opened ∨ s.pos[p].state = .faulty) → s.pos[p].feedback = .opened →
        (s.tripPlain p c parent).pos[p].state = .opened
          ∧ (s.tripPlain p c parent).pos[p].tripLocked = (s.pos[p].tripLocked || c != .overlap)
          ∧ (s.tripPlain p c parent).pos[p].lastOutcome = some (.openedDone, .trip)
          ∧ (s.tripPlain p c parent).router = s.router ∧ samePositionsBut p (s.tripPlain p c parent) s)
    ∧ ((s.pos[p].state = .closed ∨ s.pos[p].state = .closePulse ∨ s.pos[p].state = .openPulse
          ∨ ((s.pos[p].state = .opened ∨ s.pos[p].state = .faulty) ∧ s.pos[p].feedback ≠ .opened)) →
        tripBegun s (s.tripPlain p c parent) p c parent)
    ∧ (s.pos[p].state = .tripPulse → ∀ a, s.router.active[p] = some a → a.cause ≠ c → c ∉ a.secondary → a.secondary.length < 3 →
        (s.tripPlain p c parent).router.active[p]
            = some { a with secondary := a.secondary ++ [c], backup := a.backup || c == .bfBackup }
          ∧ (s.tripPlain p c parent).pos[p].state = .tripPulse)

/-- Breaker-failure expiry by the feedback that stands (R12, R104, R105, R108): an open breaker clears the trip; any other sets BF and trips
each position of the backup set with cause BF_BACKUP and the failed trip's record as parent, or adds that cause to a trip in progress
(R101), and completes the record as BACKUP, or BACKUP_FAILED when the failed trip was a backup, with the list of the set; a failure of a
backup trip pulses both upstream lines and puts the part in HOLD. The backup set of a failed position: the positions of its row of Table
6.2 that are connecting and do not hold BF (R106). -/
def Obligations.BreakerFailureAndBackups : Prop :=
  (∀ (s : State) (p : Pos) (a : ActiveTrip), s.router.active[p] = some a → a.timer = some 0 → s.pos[p].state = .tripPulse →
      s.set.pos[p].fitted = true →
      ∃ u : State, exec (.bfTimerExpiry p) s = .next u.finish
        ∧ (s.pos[p].feedback = .opened →
            u.pos[p].state = .opened ∧ u.pos[p].bf = s.pos[p].bf ∧ u.pos[p].lastOutcome = some (.openedDone, .trip)
              ∧ u.router.active[p] = none ∧ samePositionsBut p u s ∧ u.modes = s.modes
              ∧ ∀ n, a.record = some n →
                  u.router.ring = s.router.ring.map fun r =>
                    if r.seq = n then { r with outcome := .cleared (duration s.base.timeBase r.stamp) } else r)
        ∧ (s.pos[p].feedback ≠ .opened →
            (∀ q ∈ s.backupSet p,
              ((s.pos[q].state = .closed ∨ s.pos[q].state = .openPulse) →
                u.pos[q].state = .tripPulse ∧ u.pos[q].tripLocked = true
                ∧ ∃ n, u.router.active[q] = some ⟨.bfBackup, [], true, n, some s.set.pos[q].bfTime, a.record⟩
                    ∧ ∀ k, n = some k →
                        ∃ r ∈ u.router.ring, r.seq = k ∧ r.pos = q ∧ r.cause = .bfBackup ∧ r.parent = a.record)
              ∧ ∀ t, s.pos[q].state = .tripPulse → s.router.active[q] = some t → t.cause ≠ .bfBackup → .bfBackup ∉ t.secondary →
                  t.secondary.length < 3 →
                  u.pos[q].state = .tripPulse
                    ∧ u.router.active[q] = some { t with secondary := t.secondary ++ [.bfBackup], backup := true })
            ∧ (∀ q : Pos, q ≠ p → q ∉ s.backupSet p → u.pos[q] = s.pos[q] ∧ u.router.active[q] = s.router.active[q])
            ∧ (∀ n, a.record = some n →
                (∀ r ∈ u.router.ring, r.seq = n →
                  r.outcome = if a.backup then .backupFailed (s.backupSet p) else .backup (s.backupSet p))
                ∧ ∀ r ∈ s.router.ring, r.seq = n → ∃ r' ∈ u.router.ring, r'.seq = n ∧ r'.pos = r.pos ∧ r'.cause = r.cause))
        ∧ (s.pos[p].feedback ≠ .opened →
            u.pos[p].bf = true ∧ u.pos[p].state = (if s.pos[p].feedback = .closed then .closed else .faulty)
              ∧ u.pos[p].lastOutcome = some (.bfExpired, .trip) ∧ u.router.active[p] = none
              ∧ (a.backup = true → u.router.uta = some 500 ∧ u.router.utb = some 500 ∧ u.modes.mode = .hold
                  ∧ u.modes.cause = .secondFailure)
              ∧ (a.backup = false → u.modes = s.modes
                  ∧ u.router.uta = (if p = 0 then some 500 else s.router.uta)
                  ∧ u.router.utb = (if p = 1 then some 500 else s.router.utb))))
  ∧ (∀ (s : State) (p q : Pos),
      q ∈ s.backupSet p ↔
        ((s.pos[q].state = .closed ∨ s.pos[q].state = .openPulse ∨ s.pos[q].state = .tripPulse) ∧ s.pos[q].bf = false
          ∧ ((p = 0 ∧ (q = 2 ∨ q = 3)) ∨ (p = 1 ∧ (q = 2 ∨ q = 4)) ∨ (p = 2 ∧ (q = 0 ∨ q = 1 ∨ q = 3 ∨ q = 4))
            ∨ (p = 3 ∧ (q = 0 ∨ q = 2 ∨ (5 ≤ q.val ∧ q.val ≤ 10))) ∨ (p = 4 ∧ (q = 1 ∨ q = 2 ∨ (5 ≤ q.val ∧ q.val ≤ 10)))
            ∨ (5 ≤ p.val ∧ p.val ≤ 10 ∧ (q = 3 ∨ q = 4 ∨ (5 ≤ q.val ∧ q.val ≤ 10 ∧ q ≠ p)))
            ∨ (11 ≤ p.val ∧ p.val ≤ 16 ∧ (q = 0 ∨ q = 2 ∨ q = 3)) ∨ (17 ≤ p.val ∧ (q = 1 ∨ q = 2 ∨ q = 4)))))

/-- The lock word: an update asked for starts a program that captures the flags as they stand, or sets the pending flag; a completed program
leaves its capture in the lock word and starts the pending one with the flags then standing (R102; log 5, log 11). The fault ring: a
record is appended with the next sequence number while fewer than 32 are held, and is lost with the overrun flag set otherwise (R112);
RECORD_RELEASE takes the head alone, when it is complete (R115). A duration from two stamps, modulo 4294967296 (R34). -/
def Obligations.LockWordAndFaultRing : Prop :=
  (∀ s : State,
    (s.lockAsk = true → s.router.prog = none →
      s.settleLock = { s with lockAsk := false, router := { s.router with prog := some ⟨s.lockFlags, some 20⟩ } })
    ∧ (s.lockAsk = true → s.router.prog ≠ none →
      s.settleLock = { s with lockAsk := false, router := { s.router with progPending := true } })
    ∧ (s.router.prog = none → exec .lockWordProgramComplete s = .next s.finish)
    ∧ ∀ g, s.router.prog = some g →
        exec .lockWordProgramComplete s
          = .next (State.finish
              { s with
                base := { s.base with lockWord := g.capture }
                router := if s.router.progPending then { s.router with prog := some ⟨s.lockFlags, some 20⟩, progPending := false }
                  else { s.router with prog := none } }))
  ∧ ((∀ (s : State) (p : Pos) (c : TripCause) (v : Option Nat) (g : Grp) (parent : Option (BitVec 16)),
      (s.router.ring.length < 32 →
        (s.storeRecord p c v g parent).1 = some s.router.nextSeq
          ∧ (s.storeRecord p c v g parent).2.router.ring
            = s.router.ring ++ [⟨s.router.nextSeq, s.base.timeBase, p, c, v, g, s.feeds.get (recordBus p), parent, [], .opened⟩]
          ∧ (s.storeRecord p c v g parent).2.router.nextSeq = s.router.nextSeq + 1
          ∧ (s.storeRecord p c v g parent).2.router.overrun = s.router.overrun)
      ∧ (32 ≤ s.router.ring.length →
          (s.storeRecord p c v g parent).1 = none
            ∧ (s.storeRecord p c v g parent).2.router = { s.router with overrun := true }))
    ∧ ∀ (s : State) (q : Req) (m : MasterIx) (r : FaultRec) (rest : List FaultRec), s.hears q m → s.roleOf m ≠ .view →
        s.router.ring = r :: rest →
        (r.outcome ≠ .opened →
          exec (.recordRelease q r.seq.toNat) s
            = .next (State.answered
                { s.notePort q with
                  router := { s.router with ring := rest, overrun := if rest = [] then false else s.router.overrun } } q 19
                { code := .done }))
        ∧ (r.outcome = .opened →
          exec (.recordRelease q r.seq.toNat) s = .next ((s.notePort q).answered q 19 { code := .incomplete }))
        ∧ (∀ n, n ≠ r.seq.toNat → exec (.recordRelease q n) s = .next ((s.notePort q).answered q 19 { code := .notFound })))
  ∧ (∀ later earlier : Stamp, duration later earlier = (later.toNat + 4294967296 - earlier.toNat) % 4294967296)

/-- The upstream-trip lines and the STOP line (R107, R109, R111): a line timer that runs out makes its line inactive; an assertion leaves no
position of the stop mask closed or driven closed without a trip or a place in the stop-pending set, and enters HOLD with cause STOP; a
release changes the line alone. A change of state of a position in the stop-pending set is handed to the router; at the change that leaves
CLOSE_PULSE or OPEN_PULSE the position leaves the set and a trip request with cause STOP is taken against the state then found, so that
a further drive begun since is taken over; no other change has an effect (R97, R98, R110). That a position in OPEN without open feedback
gets a trip pulse there is the model's reading (log 34). -/
def Obligations.StopAndUpstreamLines : Prop :=
  (∀ s : State, s.router.uta = some 0 →
    exec (.upstreamLineTimerExpiry .uta) s = .next (State.finish { s with router := { s.router with uta := none } }))
  ∧ (∀ s : State, s.router.utb = some 0 →
    exec (.upstreamLineTimerExpiry .utb) s = .next (State.finish { s with router := { s.router with utb := none } }))
  ∧ (∀ s : State, exec .stopReleased s = .next (State.finish { s with base := { s.base with stopLine := false } }))
  ∧ (∀ s : State, s.base.phase = .running → s.base.stopLine = false →
      ∃ u : State, exec .stopAsserted s = .next u.finish ∧ u.base = { s.base with stopLine := true } ∧ u.modes.mode = .hold
        ∧ u.modes.cause = .stop
        ∧ ∀ p : Pos, s.pos[p].state ≠ .unfitted → s.set.pos[p].stopTrip = true →
            ((s.pos[p].state = .closePulse ∨ s.pos[p].state = .openPulse) → p ∈ u.router.stopPending ∧ u.pos[p] = s.pos[p])
            ∧ (s.pos[p].state = .closed → u.pos[p].state = .tripPulse
                ∧ ∃ n, u.router.active[p] = some ⟨.stop, [], false, n, some s.set.pos[p].bfTime, none⟩)
            ∧ (s.pos[p].state = .opened → s.pos[p].feedback = .opened → u.pos[p].state = .opened ∧ u.pos[p].tripLocked = true))
  ∧ (∀ (s : State) (p : Pos) (st : PosState) (k : ChangeKind), s.pos[p].state ≠ st → p ∈ s.router.stopPending →
      .posRouter p s.pos[p].state ∈ (s.setPosState p st k).inbox)
  ∧ ∀ (s : State) (p : Pos) (was : PosState),
      let u := s.handle (.posRouter p was)
      let v : State := { s with router := { s.router with stopPending := s.router.stopPending.filter (· ≠ p) } }
      (p ∈ s.router.stopPending → (was = .closePulse ∨ was = .openPulse) →
          u = v.tripPlain p .stop none ∧ u.router.stopPending = s.router.stopPending.filter (· ≠ p)
            ∧ ((s.pos[p].state = .closed ∨ s.pos[p].state = .closePulse ∨ s.pos[p].state = .openPulse
                  ∨ ((s.pos[p].state = .opened ∨ s.pos[p].state = .faulty) ∧ s.pos[p].feedback ≠ .opened)) →
                tripBegun v u p .stop none)
            ∧ ((s.pos[p].state = .opened ∨ s.pos[p].state = .faulty) → s.pos[p].feedback = .opened →
                u.pos[p].state = .opened ∧ u.pos[p].tripLocked = true))
      ∧ (p ∉ s.router.stopPending ∨ (was ≠ .closePulse ∧ was ≠ .openPulse) → u = s)

/-! ### Section 4: the checks -/

/-- The parallel rule and the capacity check. The two sides of a position (Table 4.9) are live, dead or unknown by their sources and their
voltage (R67): with a side unknown RESIDUAL; with both live a paralleling close, which passes only on a path that may parallel and for an
enabled pair, and is PARALLEL otherwise; with one dead RESIDUAL unless the dead side is at or below 0.25 pu; with both dead passed (R68).
A feeder passes the rule, and its close is refused CAPACITY exactly when its section is gen-fed and its demand, with what the same group
has issued, exceeds the headroom (R69, R75). -/
def Obligations.ParallelRuleAndCapacity : Prop :=
  (∀ (f : Feeds),
      sidesOf f 0 = some (⟨⟨true, false, false⟩, 23, false⟩, ⟨f.a, 25, false⟩)
      ∧ sidesOf f 1 = some (⟨⟨false, true, false⟩, 24, false⟩, ⟨f.b, 26, false⟩)
      ∧ sidesOf f 2 = some (⟨f.a, 25, false⟩, ⟨f.b, 26, false⟩) ∧ sidesOf f 3 = some (⟨f.n, 27, false⟩, ⟨f.a, 25, false⟩)
      ∧ sidesOf f 4 = some (⟨f.n, 27, false⟩, ⟨f.b, 26, false⟩)
      ∧ (∀ g : GenIx, sidesOf f (genPos g) = some (⟨⟨false, false, true⟩, genChan g, true⟩, ⟨f.n, 27, false⟩)
          ∧ (genPos g).val = g.val + 5 ∧ (genChan g).val = g.val + 28)
      ∧ ∀ p : Pos, 11 ≤ p.val → sidesOf f p = none)
  ∧ (∀ (s : State) (p : Pos) (paired : Bool),
      let live := fun d : Side => s.sideLive d
      let dead := fun d : Side => ¬ s.sideLive d ∧ ∃ v, s.gaveVolt d.chan v
      let unknown := fun d : Side => ¬ s.sideLive d ∧ ∀ v, ¬ s.gaveVolt d.chan v
      let low := fun d : Side => ∃ v, s.gaveVolt d.chan v ∧ v ≤ 250
      let enabled := fun x y : Side => (∃ m, x.sources.has m = true) ∧ (∃ m, y.sources.has m = true)
        ∧ ∀ m n, x.sources.has m = true → y.sources.has n = true → m ≠ n →
            if m = .gb ∨ n = .gb then s.set.genClosed = true else s.set.utilClosed = true
      (sidesOf s.feeds p = none → s.parallelRule p paired = none)
      ∧ ∀ x y, sidesOf s.feeds p = some (x, y) →
          (unknown x ∨ unknown y → s.parallelRule p paired = some .residual)
          ∧ (live x → live y →
              (paired = true → enabled x y → s.parallelRule p paired = none)
              ∧ (paired = false ∨ ¬ enabled x y → s.parallelRule p paired = some .parallel))
          ∧ (live x → dead y → (low y → s.parallelRule p paired = none) ∧ (¬ low y → s.parallelRule p paired = some .residual))
          ∧ (dead x → live y → (low x → s.parallelRule p paired = none) ∧ (¬ low x → s.parallelRule p paired = some .residual))
          ∧ (dead x → dead y → s.parallelRule p paired = none))
  ∧ ∀ (s : State) (p : Pos) (issued : Nat),
      let genFed := (11 ≤ p.val ∧ p.val ≤ 16 ∧ s.feeds.a.gb = true) ∨ (17 ≤ p.val ∧ s.feeds.b.gb = true)
      let fits := ((s.set.pos[p].demand + issued : Nat) : Int) ≤ s.headroom
      (genFed → ¬ fits → s.capacityCheck p issued = some .capacity) ∧ (¬ genFed ∨ fits → s.capacityCheck p issued = none)

/-! ### The readouts -/

/-- Every read answers from the state and changes nothing else: the record of LAYER_READ, PLAN_READ, SETTING_READ, RECORD_READ and READ as
it stands (R60, R114, R130, R190, R195; the layouts R193 does not fix are the model's choice, log 16, log 54, log 55, as are the index of
a READ item that has none, log 17, and the condition flags READ of SOURCE gives, log 53). A readout is answered in parts of
eight bytes; a part beyond the last is answered RANGE (R184); that an empty readout has one part is the model's choice (log 44). -/
def Obligations.ReadsAnswerInPartsOnly : Prop :=
  (∀ (s : State) (q : Req) (m : MasterIx), s.hears q m →
      (∀ (x : BusSec) (first count part : Nat), 0 < count → first + count ≤ 23 →
        exec (.layerRead q (if x = .a then 0 else 1) 0 first count part) s
          = .next ((s.notePort q).answered q 9
              (readPart ((s.inter.layer x).committed.bytes first count ++ flagByte (s.inter.layer x).staging.isSome
                ++ byte1 (s.inter.layer x).commits.toNat) part))
        ∧ ∀ c, (s.inter.layer x).staging = some c →
            exec (.layerRead q (if x = .a then 0 else 1) 1 first count part) s
              = .next ((s.notePort q).answered q 9
                  (readPart (c.bytes first count ++ flagByte true ++ byte1 (s.inter.layer x).commits.toNat) part)))
      ∧ (∀ (slot : SlotIx) (start : CellIx) (count part : Nat), 0 < count → count ≤ 16 →
          exec (.planRead q slot.val start.val count part) s
            = .next ((s.notePort q).answered q 23
                (readPart (Plan.cells s.set.plans[slot] start count ++ flagByte (Plan.runnable s.set.plans[slot])
                  ++ optBytes 3 (if Plan.runnable s.set.plans[slot] then some (Plan.posSet s.set.plans[slot]).toNat else none))
                  part)))
      ∧ (∀ (row place : Nat) (index : List Nat) (k : SettingKey) (part : Nat), keyOf row place index = some k →
          exec (.settingRead q row place index part) s
            = .next ((s.notePort q).answered q 33 (readPart (s.settingData k) part)))
      ∧ (∀ (offset part : Nat) (r : FaultRec), offset ≤ 31 → s.router.ring[offset]? = some r →
          exec (.recordRead q offset part) s
            = .next ((s.notePort q).answered q 18 (readPart (r.bytes ++ s.router.status) part)))
      ∧ ∀ (item index part : Nat) (d : List Byte), (s.notePort q).readItem item index = .ok d →
          exec (.readRecord q item index part) s = .next ((s.notePort q).answered q 1 (readPart d part)))
  ∧ (∀ (data : List Byte) (part : Nat),
      let n := max 1 ((data.length + 7) / 8)
      (part < n → readPart data part = ⟨.done, (data.drop (8 * part)).take 8, part, n⟩)
        ∧ (n ≤ part → readPart data part = { code := .range })
        ∧ ((List.range n).flatMap fun i => (readPart data i).data) = data)

/-! ### Section 4 -/

/-- The combined close and open entries of a position, from the committed entries of the two layers under the combine mode in force: PERMIT
as the table gives, and BLOCK otherwise (R61, Table 4.4). -/
def Obligations.CombinedEntryByMode : Prop :=
  (∀ (m : CombineMode) (a b : LayerEntry),
    combinedPermit m a b = true ↔ match m with
      | .aOnly => a = .permit
      | .bOnly => b = .permit
      | .both => a ≠ .block ∧ b ≠ .block ∧ ¬ (a = .defer ∧ b = .defer)
      | .either => a = .permit ∨ b = .permit
      | .aOverB => (a ≠ .defer ∧ a = .permit) ∨ (a = .defer ∧ b = .permit))
  ∧ ∀ (s : State) (p : Pos),
      s.closePermitted p = combinedPermit s.set.combine s.inter.layerA.committed.close[p] s.inter.layerB.committed.close[p]
        ∧ s.openPermitted p = combinedPermit s.set.combine s.inter.layerA.committed.opn[p] s.inter.layerB.committed.opn[p]

/-- A layer is written in its staging copy, committed whole, and abandoned, by the STATION role it belongs to (R57 to R59). SET_COMBINE sets
the mode below guard level 2, and a change is a layer change for the ledger (R62). -/
def Obligations.LayersAndCombineMode : Prop :=
  (∀ (s : State) (q : Req) (m : MasterIx) (x : BusSec), s.hears q m → s.roleOf m = (if x = .a then .stationA else .stationB) →
      let n := if x = .a then 0 else 1
      let l := s.inter.layer x
      let other := if x = .a then BusSec.b else .a
      (∀ (first : Nat) (es : List (Nat × Nat)), es ≠ [] → es.length ≤ 16 → first + es.length ≤ 23 → (∀ e ∈ es, e.1 < 3 ∧ e.2 < 3) →
        ∃ (u : State) (c : LayerCopy), exec (.layerWrite q n first es) s = .next (u.answered q 6 { code := .done })
          ∧ u.inter.layer x = { l with staging := some c } ∧ u.inter.layer other = s.inter.layer other
          ∧ u.inter.joins = s.inter.joins ∧ u.inter.group = s.inter.group ∧ { u with inter := s.inter, link := s.link } = s
          ∧ ∀ p : Pos,
              let base := l.staging.getD l.committed
              (first ≤ p.val ∧ p.val < first + es.length →
                c.close[p].code = (es.getD (p.val - first) (0, 0)).1 ∧ c.opn[p].code = (es.getD (p.val - first) (0, 0)).2)
              ∧ (¬ (first ≤ p.val ∧ p.val < first + es.length) → c.close[p] = base.close[p] ∧ c.opn[p] = base.opn[p]))
      ∧ (∀ c, l.staging = some c →
          exec (.layerCommit q n) s
            = .next (State.answered
                (State.hand { s.notePort q with inter := s.inter.putLayer x ⟨c, none, l.commits + 1⟩ } .layerLedger) q 7
                { code := .done }))
      ∧ (l.staging = none → exec (.layerCommit q n) s = .next ((s.notePort q).answered q 7 { code := .notFound }))
      ∧ exec (.layerAbandon q n) s
          = .next (State.answered { s.notePort q with inter := s.inter.putLayer x { l with staging := none } } q 8 { code := .done }))
  ∧ (∀ (s : State) (q : Req) (m : MasterIx) (c : CombineMode), s.hears q m → (s.roleOf m = .stationA ∨ s.roleOf m = .stationB) →
      (s.base.guard < 2 → s.set.combine ≠ c →
        exec (.setCombine q c.code) s
          = .next (State.answered (State.hand { s.notePort q with set := { s.set with combine := c } } .layerLedger) q 10
              { code := .done }))
      ∧ (s.base.guard < 2 → s.set.combine = c → exec (.setCombine q c.code) s = .next ((s.notePort q).answered q 10 { code := .done }))
      ∧ (2 ≤ s.base.guard → exec (.setCombine q c.code) s = .next ((s.notePort q).answered q 10 { code := .guard })))

/-- OPEN and CLOSE (R63, R64, Table 4.8): the first check that fails refuses, in the order of the table, and the refused command changes
nothing and renews no lease: RANGE for no position, HOLD, ROLE, NOT_HELD, UNFITTED, FAULTY and BUSY for both; INTERLOCK for an open; and
TRIP_LOCKED, SHED, USE_ADMIT, INTERLOCK, the refusal of the parallel rule and CAPACITY for a close. From a holder in RUN whose checks
pass a drive begins, or the position stands as asked, and the requester's lease on it is renewed. -/
def Obligations.OpenAndCloseCommands : Prop :=
  ∀ (s : State) (q : Req) (m : MasterIx), s.hears q m →
    let openRefused := fun (n : Nat) (r : Result) => exec (.openCmd q n) s = .next ((s.notePort q).answered q 11 { code := r })
    let closeRefused := fun (n : Nat) (r : Result) => exec (.closeCmd q n) s = .next ((s.notePort q).answered q 12 { code := r })
    let refused := fun (n : Nat) (r : Result) => openRefused n r ∧ closeRefused n r
    (∀ n : Nat, 23 ≤ n → refused n .range)
    ∧ ∀ p : Pos,
      (s.modes.mode ≠ .run → refused p.val .hold)
      ∧ (s.modes.mode = .run → s.roleOf m = .view → refused p.val .role)
      ∧ (s.modes.mode = .run → s.roleOf m ≠ .view → s.holds m p = false → refused p.val .notHeld)
      ∧ (s.modes.mode = .run → s.roleOf m ≠ .view → s.holds m p = true →
        (s.pos[p].state = .unfitted → refused p.val .unfitted) ∧ (s.pos[p].state = .faulty → refused p.val .faulty)
        ∧ ((s.pos[p].state = .closePulse ∨ s.pos[p].state = .openPulse ∨ s.pos[p].state = .tripPulse) → refused p.val .busy)
        ∧ (s.pos[p].state = .opened → exec (.openCmd q p.val) s = .next (((s.notePort q).renew m p).answered q 11 { code := .done }))
        ∧ (s.pos[p].state = .closed →
            exec (.closeCmd q p.val) s = .next (((s.notePort q).renew m p).answered q 12 { code := .done })
            ∧ (s.openPermitted p = false → openRefused p.val .interlock)
            ∧ (s.openPermitted p = true →
                ∃ v : State, pulseBegun s v p false .master (some m)
                  ∧ exec (.openCmd q p.val) s = .next ((v.renew m p).answered q 11 { code := .accepted })))
        ∧ (s.pos[p].state = .opened →
            let locked := s.pos[p].tripLocked = true ∨ s.pos[p].bf = true
            let generator := 5 ≤ p.val ∧ p.val ≤ 10
            (locked → closeRefused p.val .tripLocked)
            ∧ (¬ locked → s.pos[p].shed = true → closeRefused p.val .shed)
            ∧ (¬ locked → s.pos[p].shed = false → generator → closeRefused p.val .useAdmit)
            ∧ (¬ locked → s.pos[p].shed = false → ¬ generator →
                (s.closePermitted p = false → closeRefused p.val .interlock)
                ∧ (s.closePermitted p = true →
                    (∀ r, s.parallelRule p false = some r → closeRefused p.val r)
                    ∧ (s.parallelRule p false = none → s.capacityCheck p 0 ≠ none → closeRefused p.val .capacity)
                    ∧ (s.parallelRule p false = none → s.capacityCheck p 0 = none →
                        ∃ v : State, pulseBegun s v p true .master (some m)
                          ∧ exec (.closeCmd q p.val) s = .next ((v.renew m p).answered q 12 { code := .accepted }))))))

/-- CLOSE_SYNC joins the synchronizer with the requester's entry (R65, R150): it waits while another is being synchronized, it becomes the
target at once of an idle synchronizer when neither side is dead, it closes at once onto a dead side, and the lease of the requester is
renewed. When a close is made without a window, and that such a close passes check 10 (R158, R159). The grant of an entry (R151): without
the authority it ends CANCELLED, with no dead side it begins MEASURING, and a dead-bus close is judged there alone and triggered at the
grant (R155), which starts the pulse or ends the attempt with its refusal. The ENGINE entry is granted first and then the head, one at a
time: while one is CLOSING nothing is granted, and the outcome of its pulse ends it and lets the next be granted (R151, R155, R159). -/
def Obligations.CloseSyncJoins : Prop :=
  (∀ (s : State) (q : Req) (m : MasterIx) (p : Pos) (stepped : Bool), s.hears q m → s.modes.mode = .run → s.roleOf m ≠ .view →
    s.holds m p = true → (p.val ≤ 4 ∨ (5 ≤ p.val ∧ p.val ≤ 10)) →
    let cmd := Instr.closeSync q p.val (if stepped then 1 else 0)
    let e : SyncEntry := ⟨p, .master, some m, if stepped then .stepped else .auto⟩
    (s.pos[p].state = .closed → exec cmd s = .next (((s.notePort q).renew m p).answered q 13 { code := .done }))
    ∧ (s.pos[p].state = .opened → (5 ≤ p.val) → s.pos[p].tripLocked = false → s.pos[p].bf = false → s.pos[p].shed = false →
        exec cmd s = .next ((s.notePort q).answered q 13 { code := .useAdmit }))
    ∧ (s.pos[p].state = .opened → p.val ≤ 4 → s.pos[p].tripLocked = false → s.pos[p].bf = false → s.pos[p].shed = false →
        s.closePermitted p = true → s.parallelRule p true = none → s.sync.state ≠ .idle → s.sync.waits.length < 8 →
        (∀ w ∈ s.sync.waits, w.pos ≠ p) → (∀ w, s.sync.target = some w → w.pos ≠ p) →
        ∃ v : State, v.sync = { s.sync with waits := s.sync.waits ++ [e] }
          ∧ { v with sync := s.sync, link := s.link } = s
          ∧ exec cmd s = .next ((v.renew m p).answered q 13 { code := .accepted }))
    ∧ (s.pos[p].state = .opened → p.val ≤ 4 → s.pos[p].tripLocked = false → s.pos[p].bf = false → s.pos[p].shed = false →
        s.closePermitted p = true → s.parallelRule p true = none → s.sync.state = .idle → s.sync.target = none → s.sync.waits = [] →
        s.deadBus p = false →
        ∃ v : State, v.sync = { s.sync with
              state := .measuring, target := some e
              att := { attemptTimer := some (s.set.attemptTimeout * 1000), edgeRunning := some 100, edgeReference := some 100 } }
          ∧ { v with sync := s.sync, link := s.link } = s
          ∧ exec cmd s = .next ((v.renew m p).answered q 13 { code := .accepted }))
    ∧ (s.pos[p].state = .opened → p.val ≤ 4 → s.pos[p].tripLocked = false → s.pos[p].bf = false → s.pos[p].shed = false →
        s.closePermitted p = true → s.sync.state = .idle → s.sync.target = none → s.sync.waits = [] → s.deadBus p = true →
        ∃ v : State, pulseBegun s v p true .sync none
          ∧ exec cmd s
            = .next ((State.renew { v with sync := { s.sync with state := .closing, target := some e, att := {} } } m p).answered q 13
                { code := .accepted })))
  ∧ (∀ (s : State) (p : Pos) (x y : Side), sidesOf s.feeds p = some (x, y) →
      let unknown := fun d : Side => ¬ s.sideLive d ∧ ∀ v, ¬ s.gaveVolt d.chan v
      let dead := fun d : Side => ¬ s.sideLive d ∧ ∃ v, s.gaveVolt d.chan v ∧ v ≤ 250
      let noGenerator := ∀ g : GenIx, s.pos[genPos g].state ≠ .closed
      (p.val ≤ 2 → (s.deadBus p = true ↔ ¬ unknown x ∧ ¬ unknown y ∧ (dead x ∨ dead y)))
      ∧ (p = 3 ∨ p = 4 → (s.deadBus p = true ↔ ¬ unknown x ∧ ¬ unknown y ∧ ((dead x ∧ noGenerator) ∨ dead y)))
      ∧ (∀ g : GenIx, p = genPos g → (s.deadBus p = true ↔ s.sideLive x ∧ dead y ∧ noGenerator))
      ∧ (s.deadBus p = true → s.parallelRule p true = none))
  ∧ (∀ (s : State) (e : SyncEntry),
      let u := s.grantEntry e
      let left := { s.sync with waits := s.sync.waits.filter (· ≠ e) }
      let told : List Handed := if e.cls = .generator then [.syncLedger e.pos none] else []
      let ended := fun (oc : SyncOutcome) (d : Option SyncDetail) =>
        entryEnded s u { left with state := .idle, target := none, att := {} } e oc d told
      (s.syncAuthority e = false → ended .cancelled none ∧ { u with sync := s.sync, inbox := s.inbox, link := s.link } = s)
      ∧ (s.syncAuthority e = true → s.deadBus e.pos = false →
          u.sync = { left with
              state := .measuring, target := some e
              att := { attemptTimer := some (s.set.attemptTimeout * 1000), edgeRunning := some 100, edgeReference := some 100 } }
            ∧ u.inbox = s.inbox ++ told ∧ { u with sync := s.sync, inbox := s.inbox, link := s.link } = s)
      ∧ (s.syncAuthority e = true → s.deadBus e.pos = true →
          (∀ r, s.triggerCheck e.pos = some r →
            ended .interlock (some (.refusal r)) ∧ { u with sync := s.sync, inbox := s.inbox, link := s.link } = s)
          ∧ (s.triggerCheck e.pos = none →
              (∀ r, (s.closeRequest e.pos .sync none).1 = .refused r →
                ended .interlock (some (.refusal r)) ∧ { u with sync := s.sync, inbox := s.inbox, link := s.link } = s)
              ∧ (s.pos[e.pos].state = .closed → ended .done none ∧ u.pos[e.pos].state = .closed ∧ samePositionsBut e.pos u s)
              ∧ (s.pos[e.pos].state = .opened → s.modes.mode = .run →
                  ∃ v : State, pulseBegun { s with inbox := s.inbox ++ told } v e.pos true .sync none
                    ∧ u = { v with sync := closingAttempt { left with target := some e } {} }))))
  ∧ (∀ (s : State) (e : SyncEntry), s.modes.mode = .run → s.sync.state = .idle →
      (s.sync.waits.find? (fun x => x.cls == .engine) = some e
        ∨ (s.sync.waits.find? (fun x => x.cls == .engine) = none ∧ s.sync.waits.head? = some e)) →
      s.regrant = State.grantLoop (s.sync.waits.length - 1) (s.grantEntry e))
  ∧ (∀ (n : Nat) (s : State), s.sync.state ≠ .idle → State.grantLoop n s = s ∧ s.regrant = s)
  ∧ ∀ (s : State) (e : SyncEntry) (oc : PulseOutcome), s.sync.target = some e → s.sync.state = .closing →
      ∃ v : State,
        entryEnded s v { s.sync with state := .idle, target := none, att := {} } e (if oc = .closedDone then .done else .closeFail)
          (some (.pulse oc)) []
        ∧ { v with sync := s.sync, inbox := s.inbox, link := s.link } = s ∧ s.handle (.outcomeSync e.pos oc) = v.regrant

/-- RESET_TRIP clears TRIP_LOCKED and BF and asks for a lock-word update; UNSHED takes a feeder off the stack (R66, R180). -/
def Obligations.ResetTripAndUnshed : Prop :=
  ∀ (s : State) (q : Req) (m : MasterIx) (p : Pos), s.hears q m → s.modes.mode = .run → s.roleOf m ≠ .view → s.holds m p = true →
    (s.pos[p].state = .opened ∨ s.pos[p].state = .closed) →
    (∃ v : State, exec (.resetTrip q p.val) s = .next ((v.renew m p).answered q 14 { code := .done })
      ∧ v.pos[p] = { s.pos[p] with tripLocked := false, bf := false } ∧ samePositionsBut p v s
      ∧ v.lockAsk = (s.lockAsk || s.pos[p].tripLocked || s.pos[p].bf)
      ∧ { v with pos := s.pos, link := s.link, lockAsk := s.lockAsk } = s)
    ∧ (11 ≤ p.val →
      ∃ v : State, exec (.unshed q p.val) s = .next ((v.renew m p).answered q 15 { code := .done })
        ∧ (p ∈ s.led.stack → v.pos[p] = { s.pos[p] with shed := false }
            ∧ v.led = { s.led with stack := s.led.stack.filter (· ≠ p), paused := false })
        ∧ (p ∉ s.led.stack → v.pos[p] = s.pos[p] ∧ v.led = s.led) ∧ samePositionsBut p v s
        ∧ { v with pos := s.pos, led := s.led, link := s.link } = s)

/-- GROUP_SWITCH (R73, R74). An empty request is answered RANGE, one while a group is in progress BUSY, and one of which an entry fails its
checks the refusal of the lowest such position, with that position; no such request changes anything. A group whose every entry passes is
taken with its list in position order and the requester's leases on its positions renewed: each open of a closed position begins its drive,
and every close waits PENDING while an open is in flight. With no open in flight OPENING ends at acceptance itself. The report of a pulse
completes its entry (R74, R75). OPENING ends when no open is ISSUED any more: with a close PENDING the dead timer starts, a dead time of 0
expiring at once; with none the group completes, with GROUP for its requester. CLOSING ends when no entry is ISSUED or PENDING, and the dead
timer's expiry issues the closes (R75). -/
def Obligations.GroupSwitchAccepted : Prop :=
  (∀ (s : State) (q : Req) (m : MasterIx) (mask : PosMask) (marked : Bool) (unmarked : Option Bool), s.hears q m →
    let code := fun b : Bool => if b then 1 else 0
    let cmd := Instr.groupSwitch q mask (code marked) ((unmarked.map code).getD 2)
    let act := fun p : Pos => if mask.getLsbD p.val then some marked else if s.fitted p then unmarked else none
    let failure := fun (p : Pos) (a : Bool) =>
      s.groupCheck m (maskOf (allPos.filter fun x => act x == some false)) ⟨p, a, .pending⟩
    let accepted := fun u : State => exec cmd s = .next (u.answered q 16 { code := .accepted })
    let renewed := fun (u : State) (p : Pos) =>
      u.auth.permits[p] = if act p = none then s.auth.permits[p] else s.auth.permits[p].map (Permit.renewed s.fullLease m)
    (mask = 0 → unmarked = none → exec cmd s = .next ((s.notePort q).answered q 16 { code := .range }))
    ∧ (mask ≠ 0 ∨ unmarked ≠ none →
      (s.inter.group.phase ≠ .idle → exec cmd s = .next ((s.notePort q).answered q 16 { code := .busy }))
      ∧ (s.inter.group.phase = .idle →
        (∀ (p : Pos) (a : Bool) (r : Result), act p = some a → failure p a = some r →
          (∀ (x : Pos) (b : Bool), x < p → act x = some b → failure x b = none) →
          exec cmd s = .next ((s.notePort q).answered q 16 { code := r, data := byte1 p.val }))
        ∧ ((∀ (p : Pos) (a : Bool), act p = some a → failure p a = none) →
          ((∃ p, act p = some false ∧ s.pos[p].state = .closed) →
            ∃ u : State, accepted u
              ∧ u.inter = { s.inter with group := ⟨some m, .opening, allPos.filterMap (fun p => (act p).map fun a =>
                  ⟨p, a, if a then .pending else if s.pos[p].state = .opened then .done else .issued⟩), none⟩ }
              ∧ ∀ p : Pos, (act p = some false → s.pos[p].state = .closed →
                  u.pos[p] = { s.pos[p] with
                    state := .openPulse, origin := some .group, requester := some m, openTimer := some s.set.pos[p].bfTime
                    lastKind := .commanded, lastStamp := s.base.timeBase })
                ∧ (act p ≠ some false → u.pos[p] = s.pos[p]) ∧ renewed u p)
          ∧ ((∀ p, act p = some false → s.pos[p].state = .opened) →
            ∃ v : State,
              v.inter = { s.inter with group := ⟨some m, .opening, allPos.filterMap (fun p => (act p).map fun a =>
                ⟨p, a, if a then .pending else .done⟩), none⟩ }
              ∧ (∀ p : Pos, renewed v p)
              ∧ { v with inter := s.inter, auth := s.auth, link := s.link } = s
              ∧ ((∃ p, act p = some true) → s.set.groupDead ≠ 0 →
                  accepted { v with inter := { v.inter with group := { v.inter.group with
                    phase := .deadTime, dead := some s.set.groupDead } } })
              ∧ ((∃ p, act p = some true) → s.set.groupDead = 0 → accepted v.groupClosing)
              ∧ ((∀ p, act p ≠ some true) →
                  accepted (State.raiseFor { v with inter := { v.inter with group := { v.inter.group with phase := .idle } } } m
                    .group)))))))
  ∧ (∀ (s : State) (m : MasterIx) (p : Pos) (close : Bool) (pre post : List GroupEntry) (oc : PulseOutcome),
      (∀ e ∈ pre ++ post, e.pos ≠ p) → s.inter.group.requester = some m →
      s.inter.group.list = pre ++ ⟨p, close, .issued⟩ :: post →
      let u := s.handle (.outcomeGroup p oc)
      let result : GroupResult := if oc = .openedDone ∨ oc = .closedDone then .done else .failed oc
      let g : Group := { s.inter.group with list := pre ++ ⟨p, close, result⟩ :: post }
      let withGroup := fun g : Group => ({ s with inter := { s.inter with group := g } } : State)
      let completed := State.raiseFor (withGroup { g with phase := .idle, dead := none }) m .group
      let openIssued := ∃ e ∈ pre ++ post, e.close = false ∧ e.result = .issued
      let closePending := ∃ e ∈ pre ++ post, e.close = true ∧ e.result = .pending
      let left := ∃ e ∈ pre ++ post, e.result = .issued ∨ e.result = .pending
      (s.inter.group.phase = .opening →
        (openIssued → u = withGroup g)
        ∧ (¬ openIssued → closePending → s.set.groupDead ≠ 0 →
            u = withGroup { g with phase := .deadTime, dead := some s.set.groupDead })
        ∧ (¬ openIssued → closePending → s.set.groupDead = 0 → u = (withGroup g).groupClosing)
        ∧ (¬ openIssued → ¬ closePending → u = completed))
      ∧ (s.inter.group.phase = .closing → (left → u = withGroup g) ∧ (¬ left → u = completed)))
  ∧ ∀ s : State, s.inter.group.phase = .deadTime → s.inter.group.dead = some 0 →
      exec .deadTimerExpiry s = .next s.groupClosing.finish

/-- The dead timer ends the dead time (R75): a pending close that passes its checks begins its drive, and in a mode that allows no close
every pending one is skipped (on entry to HOLD R76 has ended such a group already; the clause is about the timer alone). A feed-set
change forms and breaks joins, and an uncommanded close that forms one between two live sides, outside the synchronizer's window, is
tripped UNAUTH_PARALLEL (R70, R72). The overlap timer of a join trips the position that formed it, or the connecting ties (R71), these
in position order, which is the model's choice (log 23). -/
def Obligations.GroupJoinsAndOverlaps : Prop :=
  (∀ (s : State) (m : MasterIx) (p : Pos) (pre post : List GroupEntry),
    s.inter.group = ⟨some m, .deadTime, pre ++ ⟨p, true, .pending⟩ :: post, some 0⟩ →
    (∀ e ∈ pre ++ post, e.pos ≠ p ∧ (e.close = true → e.result ≠ .pending)) →
    s.modes.mode = .run → s.holds m p = true → s.pos[p].state = .opened → s.pos[p].tripLocked = false → s.pos[p].bf = false →
    s.pos[p].shed = false → ¬ (5 ≤ p.val ∧ p.val ≤ 10) → s.closePermitted p = true → s.parallelRule p false = none →
    s.capacityCheck p 0 = none →
    ∃ v : State, pulseBegun s v p true .group (some m)
      ∧ exec .deadTimerExpiry s
        = .next (State.finish
            { v with inter := { s.inter with group := ⟨some m, .closing, pre ++ ⟨p, true, .issued⟩ :: post, none⟩ } }))
  ∧ (∀ (s : State) (m : MasterIx) (es : List GroupEntry), s.inter.group = ⟨some m, .deadTime, es, some 0⟩ → s.modes.mode ≠ .run →
    (es.map (·.pos)).Nodup →
    ∃ u : State, exec .deadTimerExpiry s = .next u.finish
      ∧ u.inter.group.list = es.map (fun e => if e.close && e.result == .pending then { e with result := .skipped .hold } else e)
      ∧ u.inter.group.dead = none ∧ u.pos = s.pos
      ∧ (u.inter.group.phase = .idle ↔ ∀ e ∈ es, e.result ≠ .issued ∧ (e.close = false → e.result ≠ .pending)))
  ∧ (∀ (s : State) (c : FeedChange),
      let u := s.interlockFeeds c
      (∀ j : JoinId,
        let both := fun f : Feeds => ∃ bus : Bus, match j with
          | .uaUb => (f.get bus).ua = true ∧ (f.get bus).ub = true
          | .uaGb => (f.get bus).ua = true ∧ (f.get bus).gb = true
          | .ubGb => (f.get bus).ub = true ∧ (f.get bus).gb = true
        (both c.after → ¬ both c.before → u.inter.joins.get j = some ⟨c.pos, some s.set.overlapTime⟩)
        ∧ (both c.before → ¬ both c.after → u.inter.joins.get j = none)
        ∧ ((both c.before ↔ both c.after) → u.inter.joins.get j = s.inter.joins.get j))
      ∧ (let unauthorized := c.kind = .uncommandedClose ∧ (∃ j, c.after.joined j = true ∧ c.before.joined j = false)
            ∧ (∃ x y, sidesOf c.before c.pos = some (x, y) ∧ s.sideLive x ∧ s.sideLive y)
            ∧ ¬ (s.sync.att.live = true ∧ ∃ e, s.sync.target = some e ∧ e.pos = c.pos)
         (unauthorized → u = State.tripPlain { s with inter := u.inter } c.pos .unauthParallel none)
         ∧ (¬ unauthorized → u = { s with inter := u.inter }))
      ∧ u.inter.group = s.inter.group ∧ u.inter.layerA = s.inter.layerA ∧ u.inter.layerB = s.inter.layerB)
  ∧ ∀ (s : State) (j : JoinId) (r : JoinRec), s.inter.joins.get j = some r → r.timer = some 0 →
      let v := { s with inter := { s.inter with joins := s.inter.joins.put j (some { r with timer := none }) } }
      ((s.pos[r.pos].state = .closed ∨ s.pos[r.pos].state = .openPulse ∨ s.pos[r.pos].state = .tripPulse) →
        exec (.overlapTimerExpiry j) s = .next (v.tripPlain r.pos .overlap none).finish)
      ∧ ((s.pos[r.pos].state = .opened ∨ s.pos[r.pos].state = .closePulse ∨ s.pos[r.pos].state = .faulty
            ∨ s.pos[r.pos].state = .unfitted) →
          exec (.overlapTimerExpiry j) s
            = .next (State.finish
                ((([2, 3, 4] : List Pos).filter fun p => s.pos[p].state.connecting).foldl (fun s p => s.tripPlain p .overlap none) v)))

/-! ### Section 7 -/

/-- The round class of a monitor, from the entry of its voltage channel (R118). -/
def Obligations.RoundClassOfAnEntry : Prop :=
  (∀ (s : State) (m : Source),
    let c := s.meas.chans[match m with
      | .ua => (23 : Chan)
      | .ub => 24
      | .gb => 27]
    (∀ (u : Nat) (f : Option Nat) (st : Stamp), c.status = .present → c.last = some (.voltage u f, st) →
      let band := s.set.lowerVolt ≤ u ∧ u ≤ s.set.upperVolt
        ∧ ∃ x, f = some x ∧ s.set.nominal ≤ x + s.set.freqTol ∧ x ≤ s.set.nominal + s.set.freqTol
      (s.roundClass m = .inBand ↔ band) ∧ (s.roundClass m = .liveOut ↔ 850 ≤ u ∧ ¬ band)
        ∧ (s.roundClass m = .deadRound ↔ u < 850 ∧ ¬ band))
    ∧ ((c.status = .absent ∨ c.status = .notYetSeen) → s.roundClass m = .noValue)
    ∧ (c.status = .measLost → s.roundClass m = .lostRound))
  ∧ ∀ x : Nat, (Settings.builtIn.freqOk x = true ↔ 4950 ≤ x ∧ x ≤ 5050)
      ∧ ({ Settings.builtIn with nominal := 6000 }.freqOk x = true ↔ 5950 ≤ x ∧ x ≤ 6050)

/-- The monitor at a round boundary, by its state and the class of the round (R119, R121, R122, Table 7.4). The loss timer running out makes
a FAILING monitor LOST; a count that a boundary has found at the return stability in force makes an UNSTABLE one HEALTHY, and between
boundaries nothing does (R119, R120, R123; log 6). -/
def Obligations.MonitorTransitions : Prop :=
  (∀ (s : State) (m : Source), (m = .gb → s.feeds.n.gb = true) →
      let r := s.src.get m
      let cls := s.roundClass m
      let next : MonRec := match r.state, cls with
        | .dead, .inBand | .lost, .inBand => { state := .unstable, count := 1 }
        | .dead, .liveOut | .lost, .liveOut => { state := .unstable }
        | .unstable, .inBand => { r with count := r.count + 1 }
        | .unstable, .liveOut | .unstable, .noValue => { r with count := 0 }
        | .unstable, .deadRound => { state := .dead }
        | .healthy, .liveOut | .healthy, .deadRound => { state := .failing, loss := .running (s.set.lossDelay.get m) }
        | .failing, .inBand => { state := .healthy }
        | .failing, .lostRound => { r with loss := match r.loss with
            | .running n => .held n
            | x => x }
        | .failing, _ => { r with loss := match r.loss with
            | .held n => .running n
            | x => x }
        | _, _ => r
      (s.monitorRound m).src.get m
          = (if next.state = .unstable ∧ cls = .inBand ∧ s.set.returnStab.get m * 100 ≤ next.count then { state := .healthy }
             else { next with proved := false })
        ∧ (∀ x, x ≠ m → (s.monitorRound m).src.get x = s.src.get x) ∧ (s.monitorRound m).pos = s.pos)
  ∧ (∀ (s : State) (m : Source),
      ((s.src.get m).state = .failing → (s.src.get m).loss = .running 0 →
        ∃ u : State, exec (.lossTimerExpiry m) s = .next u.finish ∧ u.src = s.src.put m { state := .lost }
          ∧ u.inbox = s.inbox ++ [.monitorEngine, .monitorScenarios] ∧ { u with src := s.src, inbox := s.inbox, link := s.link } = s)
      ∧ ((s.src.get m).state = .unstable → (s.src.get m).proved = true →
        ∃ u : State, exec (.stabilityProved m) s = .next u.finish ∧ u.src = s.src.put m { state := .healthy }
          ∧ u.inbox = s.inbox ++ [.monitorEngine, .monitorScenarios] ∧ { u with src := s.src, inbox := s.inbox, link := s.link } = s)
      ∧ ((s.src.get m).proved = false → exec (.stabilityProved m) s = .next s.finish))

/-- AUTO_TRANSFER sets the enabling of automatic transfer; enabling judges every scenario that stands (R125, R126). The conditions of Table
7.7 (R124). A judgement event sets every flag and hands the triggered scenarios that stand to the engine in their order (R124, R125);
which ones they are is settled by the state at the event, before the first is handed.
The engine starts the plan of one it can start; of two that must wait the more urgent holds the pending slot; one that is not started is
recorded with its reason (R134, R135). At the end of a plan the pending scenario is tested again and started, dropped or refused (R136).
-/
def Obligations.ScenariosAndAutoTransfer : Prop :=
  (∀ s : State,
      let gone := fun m : Source => (s.src.get m).state = .lost ∨ (s.src.get m).state = .dead
      let feeds := fun m : Source => s.feeds.a.has m = true ∨ s.feeds.b.has m = true
      (s.condition .lossBoth = true ↔ gone .ua ∧ gone .ub ∧ (s.feeds.a.gb = false ∨ s.feeds.b.gb = false))
      ∧ (s.condition .lossA = true ↔ gone .ua ∧ feeds .ua) ∧ (s.condition .lossB = true ↔ gone .ub ∧ feeds .ub)
      ∧ (s.condition .returnA = true ↔ (s.src.get .ua).state = .healthy ∧ ¬ feeds .ua)
      ∧ (s.condition .returnB = true ↔ (s.src.get .ub).state = .healthy ∧ ¬ feeds .ub)
      ∧ ∀ (c : Scenario) (slot : SlotIx), s.stands c = some slot
          ↔ s.condition c = true ∧ s.src.auto = true ∧ s.modes.mode = .run ∧ s.set.scenarios.get c = some slot)
  ∧ (∀ (s : State) (every : Bool),
      let triggered := ([.lossBoth, .lossA, .lossB, .returnA, .returnB] : List Scenario).filter fun c =>
        s.condition c && (every || !s.src.flags.get c)
      let handed : List (Scenario × SlotIx) := triggered.filterMap fun c => (s.stands c).map fun slot => (c, slot)
      s.judgeScenarios every
        = handed.foldl (fun v x => v.takeScenario x.1 x.2) { s with src := { s.src with flags := s.conditions } })
  ∧ (∀ (s : State) (c : Scenario) (slot : SlotIx), s.modes.mode = .run →
      let e := s.eng
      let u := s.takeScenario c slot
      let plan := s.set.plans[slot]
      let maint := ∃ p ∈ posMembers (Plan.posSet plan), ∃ h, s.auth.permits[p] = some (.maintenance h)
      (e.state ≠ .idle → e.pendingSc = none → u.eng = { e with pendingSc := some c } ∧ { u with eng := e, link := s.link } = s)
      ∧ (∀ old, e.state ≠ .idle → e.pendingSc = some old →
          u.eng = (if c.urgency < old.urgency then { e with pendingSc := some c, lastNot := some (old, .outranked) }
              else { e with lastNot := some (c, .outranked) })
            ∧ { u with eng := e, link := s.link } = s)
      ∧ (e.state = .idle → Plan.runnable plan = false →
          u.eng = { e with lastNot := some (c, .incomplete) } ∧ { u with eng := e, link := s.link } = s)
      ∧ (e.state = .idle → Plan.runnable plan = true → maint →
          u.eng = { e with lastNot := some (c, .maint) } ∧ { u with eng := e, link := s.link } = s)
      ∧ (e.state = .idle → Plan.runnable plan = true → ¬ maint →
          ∃ v : State, u = v.engBegin ∧ scenarioStarted s v c slot))
  ∧ (∀ (s : State) (c : Scenario), s.eng.state = .idle → s.eng.pendingSc = some c →
      let e := s.eng
      let r := s.retest
      (s.stands c = none → r.1 = false ∧ r.2.eng = { e with pendingSc := none, lastNot := some (c, .noLongerStands) }
        ∧ { r.2 with eng := e, link := s.link } = s)
      ∧ ∀ slot, s.stands c = some slot →
          let plan := s.set.plans[slot]
          let maint := ∃ p ∈ posMembers (Plan.posSet plan), ∃ h, s.auth.permits[p] = some (.maintenance h)
          (Plan.runnable plan = false → r.1 = false ∧ r.2.eng = { e with pendingSc := none, lastNot := some (c, .incomplete) })
          ∧ (Plan.runnable plan = true → maint →
              r.1 = false ∧ r.2.eng = { e with pendingSc := none, lastNot := some (c, .maint) })
          ∧ (Plan.runnable plan = true → ¬ maint →
              r.1 = true ∧ scenarioStarted { s with eng := { e with pendingSc := none } } r.2 c slot))
  ∧ (∀ s : State, s.eng.pendingSc = none → s.retest = (false, s))
  ∧ ∀ (s : State) (q : Req) (m : MasterIx) (on : Bool), s.hears q m → (s.roleOf m = .stationA ∨ s.roleOf m = .stationB) →
    let cmd := Instr.autoTransfer q (if on then 1 else 0)
    (s.src.auto = on → exec cmd s = .next ((s.notePort q).answered q 20 { code := .done }))
    ∧ (s.src.auto = !on →
      ∃ v : State, v.src = { s.src with auto := on } ∧ { v with src := s.src, link := s.link } = s
        ∧ exec cmd s = .next ((if on then v.judgeScenarios true else v).answered q 20 { code := .done })
        ∧ (s.modes.mode ≠ .run → (v.judgeScenarios true).src = { v.src with flags := s.conditions }
            ∧ (v.judgeScenarios true).eng = s.eng))

/-- PLAN_WRITE puts its steps into consecutive EMPTY cells and stops at the first that is not EMPTY; PLAN_CLEAR empties every cell (R128,
R129). -/
def Obligations.PlanStoreWrites : Prop :=
  ∀ (s : State) (q : Req) (m : MasterIx) (slot : SlotIx) (start : CellIx), s.hears q m →
    (s.roleOf m = .stationA ∨ s.roleOf m = .stationB ∨ s.roleOf m = .maint) → s.base.guard < 2 →
    (∀ r, s.eng.run = some r → r.slot ≠ slot) →
    (∀ (raw : List RawStep) (steps : List Step), 1 ≤ raw.length → raw.length ≤ 3 → raw.mapM stepOf = some steps →
      ∀ n : Nat, n ≤ steps.length →
        (∀ k : Nat, k < n → s.set.plans[slot][start + Fin.ofNat 16 k] = none) →
        (n < steps.length → s.set.plans[slot][start + Fin.ofNat 16 n] ≠ none) →
        ∃ pl : Plan,
          exec (.planWrite q slot.val start.val raw) s
            = .next (State.answered { s.notePort q with set := { s.set with plans := s.set.plans.set slot pl } } q 21
                (if n = steps.length then { code := .done, data := byte1 n }
                 else { code := .notEmpty, data := byte1 n ++ byte1 (start + Fin.ofNat 16 n).val }))
          ∧ (∀ k : Nat, k < n → pl[start + Fin.ofNat 16 k] = steps[k]?)
          ∧ ∀ c : CellIx, (∀ k : Nat, k < n → c ≠ start + Fin.ofNat 16 k) → pl[c] = s.set.plans[slot][c])
    ∧ exec (.planClear q slot.val) s
        = .next (State.answered
            { s.notePort q with set := { s.set with plans := s.set.plans.set slot (Vector.replicate 16 none) } } q 22
            { code := .done })

/-! ### Section 8 -/

/-- PLAN_START makes the start when its checks pass (R50, R134): every fitted position of the plan comes under ENGINE and step 0 begins; a
refusal answers and changes nothing else. -/
def Obligations.PlanStartMakesTheStart : Prop :=
  ∀ (s : State) (q : Req) (m : MasterIx) (slot : SlotIx), s.hears q m → (s.roleOf m = .stationA ∨ s.roleOf m = .stationB) →
    let set := Plan.posSet s.set.plans[slot]
    let cmd := Instr.planStart q slot.val
    (s.modes.mode ≠ .run → exec cmd s = .next ((s.notePort q).answered q 24 { code := .hold }))
    ∧ (s.modes.mode = .run → s.eng.state ≠ .idle → exec cmd s = .next ((s.notePort q).answered q 24 { code := .busy }))
    ∧ (s.modes.mode = .run → s.eng.state = .idle → Plan.runnable s.set.plans[slot] = false →
        exec cmd s = .next ((s.notePort q).answered q 24 { code := .incomplete }))
    ∧ (s.modes.mode = .run → s.eng.state = .idle → Plan.runnable s.set.plans[slot] = true →
        (∃ p ∈ posMembers set, ∃ h, s.auth.permits[p] = some (.maintenance h)) →
        exec cmd s = .next ((s.notePort q).answered q 24 { code := .maint }))
    ∧ (s.modes.mode = .run → s.eng.state = .idle → Plan.runnable s.set.plans[slot] = true →
        (∀ p ∈ posMembers set, ∀ h, s.auth.permits[p] ≠ some (.maintenance h)) →
        ∃ v : State, exec cmd s = .next (v.engBegin.answered q 24 { code := .accepted })
          ∧ v.eng = { s.eng with
              state := .running, run := some ⟨slot, set, 0, .waitingToIssue⟩, stepTimer := .idle, poll := none, marks := {}
              result := some { slot := slot, cause := .master m, set := set, step := 0 } }
          ∧ (∀ p ∈ posMembers set, s.fitted p = true → v.auth.permits[p] = some .engine)
          ∧ v.base = s.base ∧ v.set = s.set ∧ v.modes = s.modes ∧ v.pending = s.pending)

/-- A trip on a position of the running plan's set suspends it: its step halts with its timer frozen, the trip is noted while the list has
room, a close drive of the step on another position is ended and a synchronizer entry of the step withdrawn (R144); a further trip of a
suspended plan is noted alone, and any other trip does not reach the plan (R144, R145). An outcome is taken only as an outcome of the
pulse of the step ISSUED, and while SUSPENDED not at all (R138, R139, R143, R145); that TAKEN_BY_TRIP suspends and notes no trip is the
model's choice (log 47). PLAN_RESUME sets a suspended plan running from its
current step, which begins again; PLAN_ABANDON ends a plan with its outcome and releases the permits of the engine (R143, R146, R147).
-/
def Obligations.PlanSuspendResumeAbandon : Prop :=
  (∀ (s : State) (r : PlanRun) (p : Pos) (c : TripCause), s.eng.run = some r →
      let u := s.engineTrip p c
      let cell := s.set.plans[r.slot][r.step]
      let noted := s.eng.result.map fun x => if x.trips.length < 8 then { x with trips := x.trips ++ [(p, c)] } else x
      (r.set.getLsbD p.val = false ∨ s.eng.state = .idle → u = s)
      ∧ (r.set.getLsbD p.val = true → s.eng.state = .suspended →
          u.eng = { s.eng with result := noted } ∧ { u with eng := s.eng, link := s.link } = s)
      ∧ (r.set.getLsbD p.val = true → s.eng.state = .running →
          u.eng = { s.eng with
              state := .suspended, run := some { r with phase := .halted }, poll := none, result := noted
              stepTimer := match s.eng.stepTimer with
                | .running t => .held t
                | x => x }
          ∧ (∀ x : Fin 5, cell = some (.closePos x) → r.phase = .issued → smallPos x ≠ p →
              s.pos[smallPos x].state = .closePulse → s.pos[smallPos x].origin = some .engine →
              s.set.pos[smallPos x].fitted = true →
                u.pos[smallPos x].state = .opened ∧ u.pos[smallPos x].lastKind = .commanded
                  ∧ u.pos[smallPos x].lastOutcome = some (.closeFail, .engine) ∧ samePositionsBut (smallPos x) u s)
          ∧ (∀ (x : Fin 5) (e : SyncEntry), cell = some (.closeSync x) → r.phase = .issued →
              s.sync.waits.find? (fun w => w.pos == smallPos x) = some e →
                u.sync.waits = s.sync.waits.filter (· ≠ e) ∧ u.sync.target = s.sync.target ∧ u.sync.state = s.sync.state
                  ∧ u.pos = s.pos)
          ∧ (∀ (x : Fin 5) (e : SyncEntry), cell = some (.closeSync x) → r.phase = .issued → s.sync.waits = [] →
              s.sync.target = some e → e.pos = smallPos x → s.sync.state ≠ .closing →
                u.sync.state = .idle ∧ u.sync.target = none ∧ u.sync.att = {} ∧ u.pos = s.pos)
          ∧ ((∀ x, cell ≠ some (.closePos x) ∧ cell ≠ some (.closeSync x)) ∨ r.phase ≠ .issued →
              { u with eng := s.eng, link := s.link } = s)))
  ∧ (∀ (s : State) (p : Pos) (oc : PulseOutcome),
      (s.eng.state ≠ .running → s.engineOutcome p oc = s)
      ∧ ∀ r, s.eng.state = .running → s.eng.run = some r →
          let cell := s.set.plans[r.slot][r.step]
          (r.phase ≠ .issued ∨ (∀ x : Fin 5, smallPos x = p → cell ≠ some (.openPos x) ∧ cell ≠ some (.closePos x)) →
            s.engineOutcome p oc = s)
          ∧ (∀ x : Fin 5, smallPos x = p → r.phase = .issued → cell = some (.openPos x) →
              s.engineOutcome p oc = match oc with
                | .openedDone => (s.setMarks p).engGo .complete
                | .openFail => s.engGo (.failed .openFail)
                | .takenByTrip => s.suspend p
                | _ => s)
          ∧ (∀ x : Fin 5, smallPos x = p → r.phase = .issued → cell = some (.closePos x) →
              s.engineOutcome p oc = match oc with
                | .closedDone => s.engGo .complete
                | .closeFail => s.engGo (.failed .closeFail)
                | .takenByTrip => s.suspend p
                | _ => s))
  ∧ ∀ (s : State) (q : Req) (m : MasterIx), s.hears q m →
    (s.modes.mode = .run → s.eng.state = .suspended →
      (∃ r, s.eng.result = some r ∧ (r.cause = .master m
        ∨ (∃ c, r.cause = .scenario c) ∧ (s.roleOf m = .stationA ∨ s.roleOf m = .stationB))) →
      ∃ v : State, exec (.planResume q) s = .next (v.engBegin.answered q 25 { code := .done })
        ∧ v.eng = { s.eng with state := .running } ∧ { v with eng := s.eng, link := s.link } = s)
    ∧ ((s.roleOf m = .stationA ∨ s.roleOf m = .stationB ∨ s.roleOf m = .maint) →
      (s.eng.state = .idle → exec (.planAbandon q) s = .next ((s.notePort q).answered q 26 { code := .notFound }))
      ∧ (s.eng.state ≠ .idle → s.eng.pendingSc = none →
        ∃ v : State, exec (.planAbandon q) s = .next (v.answered q 26 { code := .done })
          ∧ v.eng = { s.eng with
              state := .idle, run := none, stepTimer := .idle, poll := none, marks := {}
              result := s.eng.result.map fun r => { r with outcome := some (.abandoned (.request m)) } }
          ∧ (∀ p : Pos, v.auth.permits[p] ≠ some .engine) ∧ v.set = s.set ∧ v.modes = s.modes ∧ v.pending = s.pending))

/-- The poll timer, the step timer and the dead-time marks (R137 to R142): an OPEN, CLOSE or CLOSE_SYNC step whose position has a pulse in
flight is polled every 10 ms; one that may issue drives its position or joins the synchronizer, and stops its poll timer where a mark
holds it back; WAIT_DEAD and REQUIRE_GEN are judged every 10 ms and WAIT_HEALTHY at a monitor's change, and complete when the condition
stands; a DWELL completes; a step waiting for a condition fails with TIMEOUT; and a mark that runs out lets a CLOSE step issue. How such a
step begins, its condition standing or not. What the result of a step leads to: nothing more while it waits, the next step after one
complete, and after a failure or END the end of the plan with its outcome, its permits released and the pending scenario tested again
(R136, R137, R143). -/
def Obligations.EngineTimersAndSteps : Prop :=
  (∀ (s : State) (r : PlanRun), s.eng.state = .running → s.eng.run = some r →
      let cell := s.set.plans[r.slot][r.step]
      let polled := exec .pollTimerExpiry s
      let again := State.finish { s with eng := { s.eng with poll := some 10 } }
      (∀ x : Fin 5, s.eng.poll = some 0 → r.phase = .waitingToIssue →
        let p := smallPos x
        let issued := { s.eng with poll := none, run := some { r with phase := .issued } }
        let joins := cell = some (.closePos x) ∨ cell = some (.closeSync x)
        (cell = some (.openPos x) ∨ joins → s.pos[p].state.inFlight = true → polled = .next again)
        ∧ (joins → s.pos[p].state.inFlight = false → (∃ side ∈ sideBuses p, s.eng.marks.get side ≠ none) →
            polled = .next (State.finish { s with eng := { s.eng with poll := none } }))
        ∧ (cell = some (.openPos x) → s.pos[p].state = .closed → (∀ h, s.auth.permits[p] ≠ some (.maintenance h)) →
            ∃ v : State, pulseBegun s v p false .engine none ∧ polled = .next (State.finish { v with eng := issued }))
        ∧ (joins → (∀ side ∈ sideBuses p, s.eng.marks.get side = none) → s.pos[p].state = .opened → s.modes.mode = .run →
            (cell = some (.closePos x) → s.engCloseChecks p false = none → (∀ h, s.auth.permits[p] ≠ some (.maintenance h)) →
              ∃ v : State, pulseBegun s v p true .engine none ∧ polled = .next (State.finish { v with eng := issued }))
            ∧ (cell = some (.closeSync x) → s.engCloseChecks p true = none → s.sync.state ≠ .idle → s.sync.waits.length < 8 →
                (∀ w ∈ s.sync.waits, w.pos ≠ p) → (∀ w, s.sync.target = some w → w.pos ≠ p) →
                ∃ v : State, v.sync = { s.sync with waits := s.sync.waits ++ [⟨p, .engine, none, .auto⟩] } ∧ v.eng = issued
                  ∧ { v with sync := s.sync, eng := s.eng, link := s.link } = s ∧ polled = .next v.finish)))
      ∧ (∀ st : Step, r.phase = .waiting → cell = some st →
          let done := State.engGo { s with eng := { s.eng with stepTimer := .idle, poll := none } } .complete
          (s.eng.poll = some 0 → (∃ t, st.awaits = some (t, some 10)) →
            (awaitedStands s st → polled = .next done.finish) ∧ (¬ awaitedStands s st → polled = .next again))
          ∧ ((∃ m t, st = .waitHealthy m t) →
              (awaitedStands s st → s.handle .monitorEngine = done) ∧ (¬ awaitedStands s st → s.handle .monitorEngine = s))
          ∧ (s.eng.stepTimer = .running 0 → st.awaits ≠ none →
              exec .stepTimerExpiry s = .next (s.engGo (.failed .timeout)).finish
              ∧ (s.eng.pendingSc = none →
                  ∃ u : State, exec .stepTimerExpiry s = .next u.finish ∧ u.eng.state = .idle ∧ u.eng.run = none
                    ∧ u.eng.result = s.eng.result.map (fun x => { x with outcome := some (.failed r.step .timeout) })
                    ∧ ∀ p : Pos, u.auth.permits[p] ≠ some .engine)))
      ∧ (∀ t : Nat, s.eng.stepTimer = .running 0 → r.phase = .waiting → s.set.plans[r.slot][r.step] = some (.dwell t) →
          exec .stepTimerExpiry s
            = .next (State.finish
                (State.engGo { s with eng := { s.eng with stepTimer := .idle, poll := none } } .complete)))
      ∧ (∀ (bus : Bus), s.eng.marks.get bus = some 0 →
          (r.phase ≠ .waitingToIssue →
            exec (.deadTimeMarkExpiry bus) s
              = .next (State.finish { s with eng := { s.eng with marks := s.eng.marks.put bus none } }))
          ∧ ∀ x : Fin 5, r.phase = .waitingToIssue → s.set.plans[r.slot][r.step] = some (.closePos x) →
              (∀ side ∈ sideBuses (smallPos x), side ≠ bus → s.eng.marks.get side = none) → s.pos[smallPos x].state = .opened →
              s.engCloseChecks (smallPos x) false = none → s.modes.mode = .run →
              (∀ h, s.auth.permits[smallPos x] ≠ some (.maintenance h)) →
              ∃ v : State, pulseBegun s v (smallPos x) true .engine none
                ∧ exec (.deadTimeMarkExpiry bus) s
                  = .next (State.finish
                      { v with eng := { s.eng with
                          poll := none, marks := s.eng.marks.put bus none, run := some { r with phase := .issued } } })))
  ∧ (∀ (s : State) (r : PlanRun) (st : Step) (t : Nat) (poll : Timer), s.eng.run = some r →
      s.set.plans[r.slot][r.step] = some st → st.awaits = some (t, poll) →
      let begun := fun (timer : HeldTimer) (poll : Timer) =>
        { s with eng := { s.eng with
            run := some { r with phase := .waiting }, stepTimer := timer, poll := poll
            result := s.eng.result.map fun x => { x with step := r.step } } }
      (awaitedStands s st → s.beginStep = (.complete, begun .idle none))
      ∧ (¬ awaitedStands s st → s.beginStep = (.waits, begun (.running t) poll)))
  ∧ (∀ (s : State) (n : Nat) (res : StepResult), s.engGo res = State.engLoop 64 res s
      ∧ State.engLoop (n + 1) res s = (if res = .waits then s else State.engLoop n (s.follow res).1 (s.follow res).2)
      ∧ (∀ r, s.eng.run = some r →
          s.follow .complete = State.beginStep { s with eng := { s.eng with run := some { r with step := r.step + 1 } } })
      ∧ ∀ oc : PlanOutcome, (res = .finished ∧ oc = .completed) ∨ (∃ why, res = .failed why ∧ oc = .failed s.stepIndex why) →
          let v := s.planEnds oc
          s.follow res = (if v.retest.1 then v.retest.2.beginStep else (.waits, v.retest.2))
            ∧ v.eng = { s.eng with
                state := .idle, run := none, stepTimer := .idle, poll := none, marks := {}
                result := s.eng.result.map fun x => { x with outcome := some oc } }
            ∧ ∀ p : Pos, v.auth.permits[p] ≠ some .engine)
  ∧ (∀ s : State, s.engGo .waits = s
      ∧ (s.eng.pendingSc = none → ∀ why,
          (s.engGo (.failed why)).eng
              = { s.eng with
                  state := .idle, run := none, stepTimer := .idle, poll := none, marks := {}
                  result := s.eng.result.map fun r => { r with outcome := some (.failed s.stepIndex why) } }
            ∧ ∀ p : Pos, (s.engGo (.failed why)).auth.permits[p] ≠ some .engine)
      ∧ ∀ (r : PlanRun) (st : Step) (t : Nat) (poll : Timer), s.eng.state = .running → s.eng.run = some r →
          s.set.plans[r.slot][r.step + 1] = some st → st.awaits = some (t, poll) → ¬ awaitedStands s st →
          (s.engGo .complete).eng
            = { s.eng with
                run := some { r with step := r.step + 1, phase := .waiting }, stepTimer := .running t, poll := poll
                result := s.eng.result.map fun x => { x with step := r.step + 1 } })

/-! ### Section 9 -/

/-- A reference edge takes the period, a running edge makes a measurement once the period is known, and an edge of any other line does
nothing (R152). Every measurement, the fourth and later ones too, sets the latest measurement, the count and the live window indication
(R153) and is then judged in the present state, by the function of MeasurementsAndTheirJudgement; of the first three in MEASURING nothing
follows (R154). The time of an edge, and the voltage difference held with a measurement, are the model's choices (log 12, log 38). -/
def Obligations.EdgesMakeMeasurements : Prop :=
  ∀ (s : State) (e : SyncEntry) (line : ZLine) (sub : Nat), s.sync.target = some e → s.base.phase = .running →
    s.sync.state ≠ .closing →
    let now := s.base.timeBase.toNat * 100 + sub
    let cmd := Instr.zeroCrossingEdge line sub
    (referenceLine e.pos = some line →
      exec cmd s
        = .next (State.finish
            { s with sync := { s.sync with att := { s.sync.att with
                period := s.sync.att.lastRef.map (edgeGap now), lastRef := some now, edgeReference := some 100 } } }))
    ∧ (referenceLine e.pos ≠ some line → runningLine e.pos = some line → s.sync.att.period = none →
        exec cmd s = .next (State.finish
            { s with sync := { s.sync with att := { s.sync.att with edgeRunning := some 100 } } }))
    ∧ (∀ period last, referenceLine e.pos ≠ some line → runningLine e.pos = some line → s.sync.att.period = some period →
        0 < period → s.sync.att.lastRef = some last →
        let m := measure (phaseOf period (edgeGap now last)) s.sync.att.meas period s.set.pos[e.pos].closeTime (s.voltDiff e.pos)
        let w := s.set.windowHolds m
        let v : State := { s with sync := { s.sync with att := { s.sync.att with
          edgeRunning := some 100, measCount := s.sync.att.measCount + 1, meas := some m, live := w } } }
        exec cmd s = .next (v.judgeMeasurement e w).finish
          ∧ (s.sync.state = .measuring → s.sync.att.measCount < 3 → exec cmd s = .next v.finish))
    ∧ (referenceLine e.pos ≠ some line → runningLine e.pos ≠ some line → exec cmd s = .next s.finish)

/-- The phase lies in one turn, the angle in half a turn to either side and equal to the phase modulo a turn, and the window condition holds
exactly when the slip, the angle at closing and the voltage difference are all within their limits (R152, R153). The fourth measurement
ends MEASURING (R154, R157): AUTO enters IN_WINDOW with a confirmation count of 1 or CORRECTING, STEPPED enters WAIT_WINDOW; and in
IN_WINDOW a measurement out of the window returns to CORRECTING. In AUTO a measurement within the window takes CORRECTING to IN_WINDOW with
a confirmation count of 1 and raises the count in IN_WINDOW, and the third confirmation triggers the close, which starts the pulse or ends
the attempt (R154, R155). Every other measurement changes nothing more (R154, R157). That a measurement holds the voltage difference it is judged by is the
model's choice (log 38). -/
def Obligations.MeasurementsAndTheirJudgement : Prop :=
  ((∀ period elapsed : Nat, 0 < period →
      0 ≤ phaseOf period elapsed ∧ phaseOf period elapsed < 36000
        ∧ (elapsed ≤ period → phaseOf period elapsed = ((36000 * (period - elapsed) / period % 36000 : Nat) : Int)))
    ∧ (∀ (phi : Int) (prev : Option Measurement) (period closeTime : Nat) (vdiff : Option Int),
        let m := measure phi prev period closeTime vdiff
        m.theta < 18000 ∧ -18000 ≤ m.theta ∧ (m.theta - phi) % 36000 = 0
          ∧ (prev = none → m.slip = none ∧ m.advance = none)
          ∧ ∀ old, prev = some old → ∃ d, m.dphi = some d ∧ -18000 ≤ d ∧ d < 18000 ∧ (d - (phi - old.phi)) % 36000 = 0
              ∧ m.slip = some ((d * 10000000).tdiv (36000 * (period : Int)))
              ∧ m.advance = some ((d * (closeTime : Int) * 100).tdiv (period : Int)))
    ∧ ∀ (t : Settings) (m : Measurement),
        t.windowHolds m = true ↔ ∃ slip advance v, m.slip = some slip ∧ m.advance = some advance ∧ m.vdiff = some v
          ∧ slip.natAbs ≤ t.slipLimit ∧ (m.theta + advance).natAbs ≤ t.windowAngle * 100 ∧ v.natAbs ≤ t.voltLimit)
  ∧ (∀ (s : State) (e : SyncEntry) (w : Bool),
      let fourth := s.sync.state = .measuring ∧ s.sync.att.measCount = 4 ∧ e.mode = .auto
      let correcting := { s.sync with
        state := .correcting
        att := if 5 ≤ e.pos.val ∧ e.pos.val ≤ 10 then
            { s.sync.att with confirm := 0, periodTimer := some 1000, outs := s.set.periodOuts s.sync.att.meas (s.voltDiff e.pos) }
          else { s.sync.att with confirm := 0 } }
      (fourth ∨ s.sync.state = .correcting → w = true →
        (s.judgeMeasurement e w).sync = { s.sync with
          state := .inWindow, att := { s.sync.att with confirm := 1, periodTimer := none, outs := {} } })
      ∧ (fourth ∨ s.sync.state = .inWindow → w = false → (s.judgeMeasurement e w).sync = correcting)
      ∧ (s.sync.state ≠ .inWindow ∨ w = false ∨ s.sync.att.confirm < 2 →
          { s.judgeMeasurement e w with sync := s.sync } = s)
      ∧ ((s.sync.state = .measuring ∧ s.sync.att.measCount ≠ 4) ∨ s.sync.state = .idle ∨ s.sync.state = .closing
            ∨ (w = false ∧ (s.sync.state = .correcting ∨ s.sync.state = .waitWindow ∨ s.sync.state = .latched)) →
          s.judgeMeasurement e w = s)
      ∧ (s.sync.state = .waitWindow → w = true →
          (s.judgeMeasurement e w).sync = { s.sync with att := { s.sync.att with seen := true } })
      ∧ (s.sync.state = .measuring → s.sync.att.measCount = 4 → e.mode = .stepped →
        (s.judgeMeasurement e w).sync = { s.sync with state := .waitWindow, att := { s.sync.att with seen := w } })
      ∧ (s.sync.state = .inWindow → w = true → s.sync.att.confirm < 2 →
        (s.judgeMeasurement e w).sync = { s.sync with att := { s.sync.att with confirm := s.sync.att.confirm + 1 } })
      ∧ (s.sync.state = .inWindow → w = true → s.sync.att.confirm = 2 → s.sync.target = some e →
          (s.syncAuthority e = true → s.triggerCheck e.pos = none → s.pos[e.pos].state = .opened → s.modes.mode = .run →
            ∃ v : State, pulseBegun s v e.pos true .sync none
              ∧ s.judgeMeasurement e w = { v with sync := closingAttempt s.sync { s.sync.att with confirm := 3 } })
          ∧ (s.syncAuthority e = false → s.judgeMeasurement e w = (s.endAttempt .cancelled none).regrant)
          ∧ ∀ r, s.syncAuthority e = true →
              s.triggerCheck e.pos = some r ∨ (s.triggerCheck e.pos = none ∧ (s.closeRequest e.pos .sync none).1 = .refused r) →
              s.judgeMeasurement e w = (s.endAttempt .interlock (some (.refusal r))).regrant)
      ∧ (s.sync.state = .latched → w = true →
        (s.judgeMeasurement e w).sync = { s.sync with state := .waitWindow, att := { s.sync.att with seen := true } }))

/-- The close trigger (R154, R155): with the authority and the checks standing it drives the position and the attempt is CLOSING, without
them the attempt ends CANCELLED or INTERLOCK. The row acts when the window is confirmed (log 6). -/
def Obligations.WindowConfirmedTriggers : Prop :=
  ∀ (s : State) (e : SyncEntry), s.sync.target = some e → s.sync.state = .inWindow → 3 ≤ s.sync.att.confirm →
    (s.syncAuthority e = true → s.triggerCheck e.pos = none → s.pos[e.pos].state = .opened → s.modes.mode = .run →
      ∃ v : State, pulseBegun s v e.pos true .sync none
        ∧ exec .windowConfirmed s
          = .next (State.finish
              { v with sync := { s.sync with
                  state := .closing
                  att := { s.sync.att with
                    attemptTimer := none, edgeRunning := none, edgeReference := none, periodTimer := none, outs := {}
                    live := false } } }))
    ∧ (s.syncAuthority e = false → exec .windowConfirmed s = .next ((s.endAttempt .cancelled none).regrant).finish)
    ∧ (∀ r, s.syncAuthority e = true → s.triggerCheck e.pos = some r →
        exec .windowConfirmed s = .next ((s.endAttempt .interlock (some (.refusal r))).regrant).finish)

/-- The timers of an attempt (R152, R156, R160, R163, R164): the attempt timer ends it TIMEOUT and an edge supervision timer ends it
LOST_REFERENCE, each with an entry of the outcome list; a period timer begins a further correction period; an on-timer makes its output
inactive, but for one that runs out with the period itself. -/
def Obligations.AttemptTimers : Prop :=
  ∀ (s : State) (e : SyncEntry), s.sync.target = some e →
    let ended := fun (v : State) (oc : SyncOutcome) =>
      v.sync = { s.sync with
          state := .idle, target := none, att := {}, counter := s.sync.counter + 1
          outcomes := (if 8 ≤ s.sync.outcomes.length then s.sync.outcomes.drop 1 else s.sync.outcomes)
            ++ [⟨s.sync.counter + 1, e, oc, none, s.base.timeBase⟩] }
        ∧ v.inbox = s.inbox ++ (match e.cls with
            | .engine => [.syncEngine e.pos oc]
            | .generator => [.syncLedger e.pos (some oc)]
            | .master => [])
        ∧ { v with sync := s.sync, inbox := s.inbox, link := s.link } = s
    (s.sync.state ≠ .idle → s.sync.state ≠ .closing →
      (s.sync.att.attemptTimer = some 0 → ∃ v : State, ended v .timeout ∧ exec .attemptTimerExpiry s = .next v.regrant.finish)
      ∧ (s.sync.att.edgeRunning = some 0 →
          ∃ v : State, ended v .lostReference ∧ exec (.edgeSupervisionExpiry .running) s = .next v.regrant.finish)
      ∧ (s.sync.att.edgeReference = some 0 →
          ∃ v : State, ended v .lostReference ∧ exec (.edgeSupervisionExpiry .reference) s = .next v.regrant.finish))
    ∧ (∀ v : State, v.sync.state = .idle → v.sync.waits = [] → v.regrant = v)
    ∧ (s.sync.state = .correcting → 5 ≤ e.pos.val → e.pos.val ≤ 10 → s.sync.att.periodTimer = some 0 →
      exec .periodTimerExpiry s
        = .next (State.finish
            { s with sync := { s.sync with att := { s.sync.att with
                periodTimer := some 1000, outs := s.set.periodOuts s.sync.att.meas (s.voltDiff e.pos) } } }))
    ∧ (∀ o : CorrOut, s.sync.att.outs.get o = some 0 →
      (s.sync.state = .correcting → s.sync.att.periodTimer = some 0 → exec (.onTimerExpiry o) s = .next s.finish)
      ∧ (s.sync.state ≠ .correcting ∨ s.sync.att.periodTimer ≠ some 0 →
          ∃ u : State, exec (.onTimerExpiry o) s = .next u.finish ∧ u.sync.att.outs.get o = none
            ∧ (∀ x, x ≠ o → u.sync.att.outs.get x = s.sync.att.outs.get x)
            ∧ { u with sync := { s.sync with att := { s.sync.att with outs := u.sync.att.outs } } } = u
            ∧ { u with sync := s.sync } = s))

/-- SYNC_STEP LATCH keeps the latest measurement and the indications as the capture; SYNC_STEP CLOSE triggers while the window is live and
is answered OUT_OF_WINDOW otherwise (R157); SYNC_CANCEL takes a waiting entry off the list (R161). That the reply to LATCH carries the
first eight bytes of the capture, their layout, and the voltage difference among them are the model's choice (log 13, log 16, log 38). -/
def Obligations.SyncStepAndCancel : Prop :=
  ∀ (s : State) (q : Req) (m : MasterIx) (p : Pos), s.hears q m → p.val ≤ 10 →
    (s.sync.target = some ⟨p, .master, some m, .stepped⟩ ∨ s.sync.target = some ⟨p, .generator, some m, .stepped⟩ →
      s.sync.state ≠ .measuring → s.sync.state ≠ .closing →
      (let c : Capture := ⟨s.sync.att.meas, s.sync.att.live, s.sync.att.seen⟩
       exec (.syncStepLatch q p.val) s
        = .next (State.answered
            { s.notePort q with sync := { s.sync with state := .latched, att := { s.sync.att with capture := some c, seen := false } } }
            q 27 { code := .done, data := c.bytes }))
      ∧ (s.sync.att.live = false → exec (.syncStepClose q p.val) s = .next ((s.notePort q).answered q 27 { code := .outOfWindow }))
      ∧ (s.sync.att.live = true → s.holds m p = true → s.triggerCheck p = none → s.pos[p].state = .opened → s.modes.mode = .run →
          ∃ v : State, pulseBegun s v p true .sync none
            ∧ exec (.syncStepClose q p.val) s
              = .next (State.answered
                  { v with sync := { s.sync with
                      state := .closing
                      att := { s.sync.att with
                        attemptTimer := none, edgeRunning := none, edgeReference := none, periodTimer := none, outs := {}
                        live := false } } } q 27 { code := .accepted })))
    ∧ (∀ e, s.sync.waits.find? (fun x => x.pos == p) = some e → e.cls ≠ .engine → e.requester = some m →
        ∃ v : State, exec (.syncCancel q p.val) s = .next (v.answered q 28 { code := .done })
          ∧ v.sync.waits = s.sync.waits.filter (· ≠ e) ∧ v.sync.target = s.sync.target ∧ v.sync.state = s.sync.state
          ∧ v.sync.outcomes.getLast? = some ⟨s.sync.counter + 1, e, .cancelled, none, s.base.timeBase⟩
          ∧ { v with sync := s.sync, inbox := s.inbox, link := s.link } = s)
    ∧ (s.sync.waits.find? (fun x => x.pos == p) = none → (∀ e, s.sync.target = some e → e.pos ≠ p) →
        exec (.syncCancel q p.val) s = .next ((s.notePort q).answered q 28 { code := .notFound }))

/-! ### Section 10 -/

/-- ADMIT joins the synchronizer for a generator that is not held (R168). WITHDRAW takes a waiting entry off the synchronizer's list, ends
the attempt of a target that is not CLOSING, and opens the breaker of a generator ONLINE (R162, R163, R169). The state code in the
refusal of a held generator is the model's choice (log 16), and so is that the withdrawal comes first for a breaker that is CLOSED or has
a pulse in flight as well (log 48). -/
def Obligations.AdmitAndWithdraw : Prop :=
  ∀ (s : State) (q : Req) (m : MasterIx) (g : GenIx) (stepped : Bool) (lease : Timer), s.hears q m → s.modes.mode = .run →
    s.roleOf m = .gen g → s.auth.permits[genPos g] = some (.operate m lease) →
    let p := genPos g
    let join := Instr.genAdmit q (g.val + 1) (if stepped then 1 else 0)
    let e : SyncEntry := ⟨p, .generator, some m, if stepped then .stepped else .auto⟩
    (s.pos[p].state = .opened → (s.led.gens[g].state = .lockedOut ∨ s.led.gens[g].state = .readmit) →
      exec join s = .next ((s.notePort q).answered q 29 { code := .interlock, data := byte1 s.led.gens[g].state.code }))
    ∧ (s.pos[p].state = .closed → s.led.gens[g].state ≠ .lockedOut → s.led.gens[g].state ≠ .readmit →
        exec join s = .next (((s.notePort q).renew m p).answered q 29 { code := .done }))
    ∧ (s.pos[p].state = .opened → s.led.gens[g].state ≠ .lockedOut → s.led.gens[g].state ≠ .readmit →
        s.pos[p].tripLocked = false → s.pos[p].bf = false → s.closePermitted p = true → s.sync.state ≠ .idle →
        s.sync.waits.length < 8 → (∀ w ∈ s.sync.waits, w.pos ≠ p) → (∀ w, s.sync.target = some w → w.pos ≠ p) →
        ∃ v : State, v.sync = { s.sync with waits := s.sync.waits ++ [e] } ∧ v.inbox = s.inbox ++ [.syncLedger p none]
          ∧ { v with sync := s.sync, inbox := s.inbox, link := s.link } = s
          ∧ exec join s = .next ((v.renew m p).answered q 29 { code := .accepted }))
    ∧ (s.pos[p].state = .closed → s.openPermitted p = true → (∀ w ∈ s.sync.waits, w.pos ≠ p) →
        (∀ w, s.sync.target = some w → w.pos ≠ p) →
        ∃ v : State, pulseBegun s v p false .master (some m)
          ∧ exec (.genWithdraw q (g.val + 1)) s = .next ((v.renew m p).answered q 30 { code := .accepted }))
    ∧ (let cancelled := fun (v : State) (e : SyncEntry) =>
          v.sync.counter = s.sync.counter + 1
          ∧ v.sync.outcomes = (if 8 ≤ s.sync.outcomes.length then s.sync.outcomes.drop 1 else s.sync.outcomes)
              ++ [⟨s.sync.counter + 1, e, .cancelled, none, s.base.timeBase⟩]
          ∧ v.inbox = s.inbox ++ (match e.cls with
              | .engine => [.syncEngine e.pos .cancelled]
              | .generator => [.syncLedger e.pos (some .cancelled)]
              | .master => [])
          ∧ { v with sync := s.sync, inbox := s.inbox, link := s.link } = s
       s.pos[p].state ≠ .unfitted → s.pos[p].state ≠ .faulty →
      (∀ e, s.sync.waits.find? (fun w => w.pos == p) = some e →
        ∃ v : State, cancelled v e ∧ v.sync.waits = s.sync.waits.filter (· ≠ e) ∧ v.sync.target = s.sync.target
          ∧ v.sync.state = s.sync.state ∧ v.sync.att = s.sync.att
          ∧ exec (.genWithdraw q (g.val + 1)) s = .next ((v.renew m p).answered q 30 { code := .done }))
      ∧ (∀ e, s.sync.waits.find? (fun w => w.pos == p) = none → s.sync.target = some e → e.pos = p → s.sync.state ≠ .closing →
        ∃ v : State, cancelled v e ∧ v.sync.waits = s.sync.waits ∧ v.sync.target = none ∧ v.sync.state = .idle ∧ v.sync.att = {}
          ∧ exec (.genWithdraw q (g.val + 1)) s = .next ((v.regrant.renew m p).answered q 30 { code := .done })))

/-- The state of a generator that is not held, by Table 10.2, judged at the events of R167 (R166, R167). Failures, lockout and readmission
of a generator (R170 to R173): each outcome of an attempt, but for one disregarded, and each reverse-power trip changes the count by the
amount of Table 10.6, and the warning stands from 8; a count of 16 locks it out and its closed breaker is driven open; CLEAR_LOCKOUT
clears the count and puts a locked-out generator in READMIT; a readmit count of 200 ends READMIT (log 6). That a failure at the saturated
count still gives the last failure event is the model's reading (log 39). So is the third clause: the outcome of an attempt that the
ledger ended at the lockout, known by the model's own mark ignoreOutcome, is disregarded, changes no count and clears the mark (log 25).
The lockout takes the breaker off the synchronizer (R162, R171): a waiting entry leaves the list and an attempt not CLOSING ends, each
CANCELLED, and the breaker is then kept open; an attempt in CLOSING keeps its pulse and is marked (log 25). -/
def Obligations.GeneratorStatesAndFailures : Prop :=
  (∀ (s : State) (g : GenIx),
      let p := genPos g
      let held := s.led.gens[g].state = .lockedOut ∨ s.led.gens[g].state = .readmit
      (s.pos[p].state = .closed → s.freeGenState g = .online)
      ∧ (s.pos[p].state ≠ .closed → (∃ e, s.sync.target = some e ∧ e.pos = p) → s.freeGenState g = .syncing)
      ∧ (s.pos[p].state ≠ .closed → (∀ e, s.sync.target = some e → e.pos ≠ p) →
          ((∃ e ∈ s.sync.waits, e.pos = p) → s.freeGenState g = .waiting)
          ∧ ((∀ e ∈ s.sync.waits, e.pos ≠ p) → ((∃ v, s.gaveVolt (genChan g) v ∧ 850 ≤ v) → s.freeGenState g = .running)
              ∧ ((∀ v, s.gaveVolt (genChan g) v → v < 850) → s.freeGenState g = .stopped)))
      ∧ (held → s.judgeGen g = s)
      ∧ (¬ held → (s.judgeGen g).led = { s.led with
            gens := s.led.gens.set g { s.led.gens[g] with state := s.freeGenState g } }
          ∧ { s.judgeGen g with led := s.led, link := s.link } = s)
      ∧ (∀ st, s.handle (.posLedger p st) = (s.judgeGen g).keepOpen g) ∧ s.handle (.syncLedger p none) = s.judgeGen g
      ∧ (¬ held → s.genBoundary g = (s.judgeGen g).keepOpen g))
  ∧ (∀ (s : State) (g : GenIx) (oc : SyncOutcome), s.led.gens[g].ignoreOutcome = false →
      let n := s.led.gens[g].failures
      let new := match oc with
        | .timeout | .lostReference | .interlock | .closeFail => min 255 (n + 2)
        | .done => n - 1
        | .cancelled => n
      let r := (s.chargeOutcome g oc).led.gens[g]
      s.handle (.syncLedger (genPos g) (some oc)) = (s.chargeOutcome g oc).judgeGen g
        ∧ r.failures = new ∧ (oc ≠ .cancelled → r.warning = decide (8 ≤ new)) ∧ (oc = .cancelled → s.chargeOutcome g oc = s)
        ∧ (oc ≠ .cancelled → oc ≠ .done →
            r.lastFailure = some (if oc = .closeFail then .closeFail else .syncFail)
              ∧ (16 ≤ new → (s.led.gens[g].state = .readmit ∧ r.state = .readmit) ∨ r.state = .lockedOut)
              ∧ (new < 16 → r.state = s.led.gens[g].state)))
  ∧ (∀ (s : State) (g : GenIx) (oc : SyncOutcome), s.led.gens[g].ignoreOutcome = true →
      s.handle (.syncLedger (genPos g) (some oc))
        = (s.setGen g { s.led.gens[g] with ignoreOutcome := false }).judgeGen g)
  ∧ (∀ (s : State) (g : GenIx),
      let new := min 255 (s.led.gens[g].failures + 4)
      let r := (s.handle (.tripLedger (genPos g))).led.gens[g]
      r.failures = new ∧ r.warning = decide (8 ≤ new) ∧ r.lastFailure = some .reversePower
        ∧ (new < 16 → r.state = s.led.gens[g].state)
        ∧ (16 ≤ new → (s.led.gens[g].state = .readmit ∧ r.state = .readmit) ∨ r.state = .lockedOut))
  ∧ (∀ (s : State) (g : GenIx), 16 ≤ s.led.gens[g].failures → s.led.gens[g].state ≠ .lockedOut → s.led.gens[g].state ≠ .readmit →
      let p := genPos g
      let locked := fun mark : Bool =>
        { s.led with gens := s.led.gens.set g { s.led.gens[g] with state := .lockedOut, ignoreOutcome := mark } }
      let withdrawn := fun (v : State) (e : SyncEntry) (rest : Sync) =>
        entryEnded s v rest e .cancelled none [] ∧ v.led = locked false
          ∧ { v with led := s.led, sync := s.sync, inbox := s.inbox, link := s.link } = s
      (∀ e, s.sync.waits.find? (fun w => w.pos == p) = some e → (∀ t, s.sync.target = some t → t.pos ≠ p ∨ s.sync.state ≠ .closing) →
        ∃ v : State, withdrawn v e { s.sync with waits := s.sync.waits.filter (· ≠ e) }
          ∧ exec (.generatorLockout g) s = .next (v.keepOpen g).finish)
      ∧ (∀ e, s.sync.waits.find? (fun w => w.pos == p) = none → s.sync.target = some e → e.pos = p → s.sync.state ≠ .closing →
          ∃ v : State, withdrawn v e { s.sync with state := .idle, target := none, att := {} }
            ∧ exec (.generatorLockout g) s = .next (v.regrant.keepOpen g).finish)
      ∧ (∀ e, s.sync.target = some e → e.pos = p → s.sync.state = .closing →
          ∃ v : State, v.led = locked true ∧ { v with led := s.led, link := s.link } = s
            ∧ exec (.generatorLockout g) s = .next (v.keepOpen g).finish))
  ∧ (∀ (s : State) (g : GenIx),
      let p := genPos g
      let r := s.led.gens[g]
      let held := r.state = .lockedOut ∨ r.state = .readmit
      let u := s.keepOpen g
      (s.pos[p].state ≠ .closed → u.led = { s.led with gens := s.led.gens.set g { r with openBlocked := false } }
        ∧ { u with led := s.led } = s)
      ∧ (s.pos[p].state = .closed → ¬ held → u = s)
      ∧ (s.pos[p].state = .closed → held → (∀ h, s.auth.permits[p] ≠ some (.maintenance h)) → pulseBegun s u p false .ledger none)
      ∧ (s.pos[p].state = .closed → held → (∃ h, s.auth.permits[p] = some (.maintenance h)) →
          u.led = { s.led with gens := s.led.gens.set g { r with openBlocked := true } } ∧ { u with led := s.led, link := s.link } = s))
  ∧ ∀ (s : State) (g : GenIx),
    (16 ≤ s.led.gens[g].failures → s.led.gens[g].state ≠ .lockedOut → s.led.gens[g].state ≠ .readmit →
      (∀ e, s.sync.target = some e → e.pos ≠ genPos g) → (∀ e ∈ s.sync.waits, e.pos ≠ genPos g) →
      ∃ u : State, exec (.generatorLockout g) s = .next u.finish
        ∧ u.led.gens[g].state = .lockedOut ∧ u.led.gens[g].failures = s.led.gens[g].failures
        ∧ (∀ x : GenIx, x ≠ g → u.led.gens[x] = s.led.gens[x])
        ∧ (s.pos[genPos g].state ≠ .closed → u.pos = s.pos)
        ∧ (s.pos[genPos g].state = .closed → (∀ h, s.auth.permits[genPos g] ≠ some (.maintenance h)) →
            u.pos[genPos g].state = .openPulse ∧ u.pos[genPos g].origin = some .ledger)
        ∧ (s.pos[genPos g].state = .closed → (∃ h, s.auth.permits[genPos g] = some (.maintenance h)) →
            u.pos = s.pos ∧ u.led.gens[g].openBlocked = true))
    ∧ (s.led.gens[g].state = .readmit → 200 ≤ s.led.gens[g].readmit →
      ∃ u : State, exec (.readmitComplete g) s = .next u.finish
        ∧ u.led = { s.led with gens := s.led.gens.set g { s.led.gens[g] with state := s.freeGenState g, readmit := 0 } }
        ∧ { u with led := s.led, link := s.link } = s)
    ∧ ∀ (q : Req) (m : MasterIx), s.hears q m → (s.roleOf m = .stationA ∨ s.roleOf m = .stationB ∨ s.roleOf m = .maint) →
        ∃ u : State, exec (.clearLockout q (g.val + 1)) s = .next (u.answered q 31 { code := .done })
          ∧ u.led.gens[g].failures = 0 ∧ u.led.gens[g].warning = false ∧ u.led.gens[g].lastFailure = none
          ∧ (s.led.gens[g].state = .lockedOut → u.led.gens[g].state = .readmit ∧ u.led.gens[g].readmit = 0)
          ∧ (s.led.gens[g].state ≠ .lockedOut → u.led.gens[g].state = s.led.gens[g].state
              ∧ u.led.gens[g].readmit = s.led.gens[g].readmit)
          ∧ (∀ x : GenIx, x ≠ g → u.led.gens[x] = s.led.gens[x])
          ∧ { u with led := s.led, link := s.link } = s ∧ { u.led with gens := s.led.gens } = s.led

/-- Restoration of the candidate (R177, R179): with the fit count at the restore delay and no check failing it leaves the stack, its close
is driven with origin LEDGER, and the spacing timer runs 2 s; a failing check pauses restoration. A spacing timer
that runs out becomes idle, whatever else stands (R177). The row acts when the boundary being taken has found the fit count at the restore
delay in force (log 6). The candidates of R177 and R178, each the topmost feeder of the stack that qualifies. The fit count (R177): it
rises by 1, to 6000 at most, while the candidate stays the same and fits with no shed open in flight and no pause, and is 0 otherwise; that
a candidate where the boundary before had none is a change is the model's reading (log 40), and which candidate it compares with and keeps
its choice (log 49). The restoration of a feeder whose section has left generator feed, with no fit test and no delay (R178), under the
checks of R179 in their order; a pause and a running spacing timer hold both restorations back. -/
def Obligations.RestoreAndSpacing : Prop :=
  (∀ (s : State) (p : Pos), s.led.candidate = some p → s.modes.mode = .run → 0 ≤ s.headroom → s.led.paused = false →
      s.led.spacing = none → s.led.fitDue = true → s.genCandidate = some p →
      (s.restoreBlock p = none → s.pos[p].state = .opened →
        ∃ u : State, exec .fitCountRestore s = .next u.finish ∧ u.pos[p].state = .closePulse ∧ u.pos[p].origin = some .ledger
          ∧ u.pos[p].shed = false ∧ samePositionsBut p u s
          ∧ u.led = { s.led with
              stack := s.led.stack.filter (· ≠ p), spacing := some 2000, fitCount := 0, fitDue := false
              lastEvent := some (.restoreIssued p) })
      ∧ (∀ k, s.restoreBlock p = some k →
          ∃ u : State, exec .fitCountRestore s = .next u.finish ∧ u.pos = s.pos
            ∧ u.led = { s.led with paused := true, fitCount := 0, fitDue := false, lastEvent := some (.restoreBlocked p k) }))
  ∧ (∀ s : State,
      let fed := fun p : Pos => if p.val ≤ 16 then s.feeds.a else s.feeds.b
      let topmost := fun (c : Option Pos) (ok : Pos → Prop) =>
        (c = none → ∀ p ∈ s.led.stack, ¬ ok p)
          ∧ ∀ p, c = some p → ok p ∧ ∃ above below, s.led.stack = above ++ p :: below ∧ ∀ x ∈ above, ¬ ok x
      topmost s.genCandidate (fun p => s.pos[p].state ≠ .unfitted ∧ (fed p).gb = true)
        ∧ topmost s.utilCandidate
          (fun p => s.pos[p].state ≠ .unfitted ∧ (fed p).gb = false ∧ ((fed p).ua = true ∨ (fed p).ub = true)))
  ∧ (∀ (s : State) (h : Int),
      let u := s.judgeFit h
      let rises := fun p : Pos => 0 ≤ h ∧ s.led.candidate = some p ∧ s.led.paused = false
        ∧ (∀ x : Pos, 11 ≤ x.val → s.pos[x].state = .openPulse → s.pos[x].origin ≠ some .ledger)
        ∧ ((s.set.pos[p].demand * 11 / 10 : Nat) : Int) ≤ s.headroom
      u.led.candidate = s.genCandidate
        ∧ (∀ p, s.genCandidate = some p → rises p → u.led.fitCount = min 6000 (s.led.fitCount + 1))
        ∧ ((∀ p, s.genCandidate = some p → ¬ rises p) → u.led.fitCount = 0)
        ∧ u = { s with led := { s.led with candidate := u.led.candidate, fitCount := u.led.fitCount, fitDue := u.led.fitDue } })
  ∧ (∀ (s : State) (p : Pos), s.utilCandidate = some p → s.led.paused = false → s.led.spacing = none →
      let u := s.restoreUtility
      (s.restoreBlock p = none → s.pos[p].state = .opened → s.modes.mode = .run →
        u.pos[p].state = .closePulse ∧ u.pos[p].origin = some .ledger ∧ u.pos[p].shed = false ∧ samePositionsBut p u s
          ∧ u.led = { s.led with
              stack := s.led.stack.filter (· ≠ p), spacing := some 2000, fitCount := 0, fitDue := false
              lastEvent := some (.restoreIssued p) })
      ∧ (∀ k, s.restoreBlock p = some k → u.pos = s.pos
          ∧ u.led = { s.led with paused := true, fitCount := 0, fitDue := false, lastEvent := some (.restoreBlocked p k) }))
  ∧ (∀ s : State, (s.led.paused = true ∨ s.led.spacing ≠ none → s.restoreUtility = s ∧ s.fitRestore = s)
      ∧ (s.utilCandidate = none → s.restoreUtility = s))
  ∧ (∀ (s : State) (p : Pos),
      let permitted := ∃ m, s.auth.permits[p] = some (.maintenance m) ∨ ∃ lease, s.auth.permits[p] = some (.operate m lease)
      let unready := s.pos[p].state = .unfitted ∨ s.pos[p].state = .faulty ∨ s.pos[p].state.inFlight = true
      let flagged := s.pos[p].tripLocked = true ∨ s.pos[p].bf = true
      (permitted → s.restoreBlock p = some 1) ∧ (¬ permitted → unready → s.restoreBlock p = some 2)
        ∧ (¬ permitted → ¬ unready → flagged → s.restoreBlock p = some 3)
        ∧ (¬ permitted → ¬ unready → ¬ flagged → s.restoreBlock p = if s.closePermitted p then none else some 4))
  ∧ (∀ (s : State) (h : Int), (s.judgeFit h).led.fitDue = true ↔ 0 ≤ h ∧ s.set.restoreDelay * 100 ≤ (s.judgeFit h).led.fitCount)
  ∧ (∀ s : State, s.led.spacing = some 0 →
      exec .spacingTimerExpiry s = .next (State.finish { s with led := { s.led with spacing := none } }))

/-- The walk of the ladder selects the fewest feeders, from the head of the order, whose shedding brings the load to the capacity, or all of
them when none suffices (R175). Capacity, load and headroom: the ratings of the generators ONLINE times the margin, and the demands of
the fitted feeders of gen-fed sections that may be carrying load (R174). The shedding act: at a boundary in RUN with the headroom below
0 every feeder selected begins an open of origin LEDGER, and a walk that finds no fit sets the overload-unresolved flag; the outcome of
a shed open pushes the feeder with its SHED flag, marks it shed-failed, or leaves it to its trip (R175, R176). The order of the ledger's
work at a boundary, generators, then shedding, then the restorations of R178 and of R177, is the model's reading (log 19); that a
boundary outside RUN leaves the candidate kept as it is, is its choice (log 49). -/
def Obligations.HeadroomAndShedding : Prop :=
  (∀ (demand : Pos → Nat) (capacity : Nat) (ps : List Pos) (load : Nat), capacity < load →
      let w := shedWalk demand capacity ps load
      w.1 <+: ps ∧ (w.2 = true → load - (w.1.map demand).sum ≤ capacity) ∧ (w.2 = false → w.1 = ps)
        ∧ ∀ ys, ys <+: w.1 → ys ≠ w.1 → capacity < load - (ys.map demand).sum)
  ∧ (∀ s : State,
      s.headroom
        = (((allGens.map fun g => if s.led.gens[g].state = .online then s.set.ratings[g] else 0).sum * s.set.margin / 100 : Nat) : Int)
          - (((feeders.map fun p =>
              if s.pos[p].state ≠ .unfitted ∧ (if p.val ≤ 16 then s.feeds.a.gb else s.feeds.b.gb) = true
                  ∧ (s.pos[p].state = .closed ∨ s.pos[p].state = .tripPulse
                    ∨ (s.pos[p].state = .openPulse ∧ s.pos[p].origin ≠ some .ledger)
                    ∨ (s.pos[p].state = .faulty ∧ s.pos[p].feedback = .closed))
                then s.set.pos[p].demand else 0).sum : Nat) : Int))
  ∧ (∀ (s : State) (p : Pos), 11 ≤ p.val →
      (s.sheddable p = true ↔ s.pos[p].state = .closed ∧ (if p.val ≤ 16 then s.feeds.a.gb else s.feeds.b.gb) = true
        ∧ 0 < s.set.pos[p].demand ∧ (∀ h, s.auth.permits[p] ≠ some (.maintenance h)) ∧ p ∉ s.led.shedFailed))
  ∧ (∀ s : State,
      let w := shedWalk (fun p => s.set.pos[p].demand) s.capacity (s.set.ladderOrder.filter s.sheddable) s.genLoad
      let u := s.shedOverload
      (∀ p : Pos, u.pos[p] = if p ∈ w.1 then
          { s.pos[p] with
            state := .openPulse, origin := some .ledger, requester := none, openTimer := some s.set.pos[p].bfTime
            lastKind := .commanded, lastStamp := s.base.timeBase }
        else s.pos[p])
      ∧ (w.2 = true ∨ s.led.unresolved = true → u.led = s.led)
      ∧ (w.2 = false → s.led.unresolved = false →
          u.led = { s.led with unresolved := true, lastEvent := some .overloadUnresolved }))
  ∧ (∀ s : State,
      let v := allGens.foldl State.genBoundary s
      (v.modes.mode ≠ .run → s.ledgerRound = { v with led := { v.led with fitCount := 0 } })
      ∧ (v.modes.mode = .run →
          s.ledgerRound
            = (((if v.headroom < 0 then v.shedOverload else { v with led := { v.led with unresolved := false } }).restoreUtility.judgeFit
                v.headroom).fitRestore).endFit))
  ∧ ∀ (s : State) (p : Pos), 11 ≤ p.val →
      let pushed := s.ledgerOutcome p .openedDone false
      pushed.led = { s.led with stack := p :: s.led.stack.filter (· ≠ p), paused := false }
        ∧ pushed.pos[p] = { s.pos[p] with shed := true } ∧ samePositionsBut p pushed s
        ∧ s.ledgerOutcome p .openFail false
          = { s with led := { s.led with shedFailed := s.led.shedFailed.filter (· ≠ p) ++ [p] } }
        ∧ s.ledgerOutcome p .takenByTrip false = s

/-! ### Section 11 -/

/-- What is sent is what is read: every frame whose fields fit its format is parsed back from its bytes with every field as it was, and
every frame that is read is the bytes that its fields spell (R192, Table 11.7). -/
def Obligations.FramesRoundTrip : Prop :=
  (∀ f : RawFrame, f.fits = true → parseFrame f.bytes = some f ∧ f.bytes.length = 6 + f.payload.length)
  ∧ ∀ (bs : List Byte) (f : RawFrame), parseFrame bs = some f → f.bytes = bs ∧ f.fits = true

/-- A frame received whole (R184, R186): one whose check does not match raises the receive error count of its port, every other lowers it;
a request to this node of no named identity is answered RANGE; and one of each of the 37 identities of Table 11.13, with the fields of
its request, is taken as the row of its name (R193). That a request row and its frame run one definition is the model's reading (log 7).
The model's choices are these: a request whose byte 1 names another length than the number of its payload bytes, or one above 10, is
answered RANGE (log 51); a frame of a good check and fewer than four body bytes counts as good (log 36); the unused bits of a mask, of
LAYER_WRITE and of PLAN_WRITE are not looked at (log 18); and a READ has its index byte for every item (log 17). -/
def Obligations.FramesReceived : Prop :=
  ∀ (s : State) (i : PortIx) (bytes : List Byte), s.base.phase = .running →
    ((∀ body, bytes ≠ withCheck body) → exec (.stationFrameReceived i bytes) s = .next (s.updPort i PortRec.bad).finish)
    ∧ (∀ body, bytes = withCheck body → body.length < 4 →
        exec (.stationFrameReceived i bytes) s = .next (s.updPort i PortRec.good).finish)
    ∧ (∀ f, parseFrame bytes = some f → (f.receiver ≠ s.base.node.val ∨ f.kind ≠ 0) →
        exec (.stationFrameReceived i bytes) s = .next (s.updPort i PortRec.good).finish)
    ∧ (∀ f, parseFrame bytes = some f → f.receiver = s.base.node.val → f.kind = 0 →
        let v := s.updPort i PortRec.good
        let q : Req := ⟨i, f.sender, f.tag⟩
        let fits := f.length = f.payload.length ∧ f.length ≤ 10
        (v.accepts q = true → v.queueFull q = false → (f.ident = 0 ∨ 38 ≤ f.ident ∨ ¬ fits) →
            exec (.stationFrameReceived i bytes) s = .next ((v.notePort q).answered q f.ident { code := .range }))
        ∧ (fits →
          let taken := fun (ident : Nat) (payload : List Byte) (c : Instr) =>
            f.ident = ident → f.payload = payload → exec (.stationFrameReceived i bytes) s = exec c v
          let flag := fun b : Bool => if b then (1 : Byte) else 0
          ∀ (a b c d e x : Byte) (on : Bool) (rest : List Byte),
            let mask : PosMask := BitVec.ofNat 23 (a.toNat * 65536 + b.toNat * 256 + c.toNat)
            taken 1 [a, b] (.readRecord q a.toNat b.toNat 0) ∧ taken 1 [a, b, c] (.readRecord q a.toNat b.toNat c.toNat)
            ∧ taken 2 [] (.readNotices q) ∧ taken 3 [a, b, c, d, flag on, e] (.permitReq q mask d.toNat on e.toNat)
            ∧ taken 4 [a, b, c, flag on] (.permitRelease q mask on) ∧ taken 5 [a, b, c] (.permitRenew q mask)
            ∧ (rest.length = (b.toNat + 1) / 2 →
                taken 6 (a :: b :: rest) (.layerWrite q (a.toNat / 128) (a.toNat % 32)
                  (((halves rest).take b.toNat).map fun h => (h / 4, h % 4))))
            ∧ taken 7 [a] (.layerCommit q a.toNat) ∧ taken 8 [a] (.layerAbandon q a.toNat)
            ∧ taken 9 [a, b, c, d] (.layerRead q a.toNat b.toNat c.toNat d.toNat 0)
            ∧ taken 9 [a, b, c, d, e] (.layerRead q a.toNat b.toNat c.toNat d.toNat e.toNat)
            ∧ taken 10 [a] (.setCombine q a.toNat) ∧ taken 11 [a] (.openCmd q a.toNat) ∧ taken 12 [a] (.closeCmd q a.toNat)
            ∧ taken 13 [a, b] (.closeSync q a.toNat b.toNat) ∧ taken 14 [a] (.resetTrip q a.toNat) ∧ taken 15 [a] (.unshed q a.toNat)
            ∧ taken 16 [a, b, c, d, e] (.groupSwitch q mask d.toNat e.toNat) ∧ taken 17 [a, b] (.groupForce q a.toNat b.toNat)
            ∧ taken 18 [a] (.recordRead q a.toNat 0) ∧ taken 18 [a, b] (.recordRead q a.toNat b.toNat)
            ∧ taken 19 [a, b] (.recordRelease q (a.toNat * 256 + b.toNat)) ∧ taken 20 [a] (.autoTransfer q a.toNat)
            ∧ (∀ steps, cellsOf rest = some steps → steps ≠ [] →
                taken 21 (a :: rest) (.planWrite q (a.toNat / 16 % 8) (a.toNat % 16) steps))
            ∧ taken 22 [a] (.planClear q a.toNat) ∧ taken 23 [a, b, c] (.planRead q a.toNat b.toNat c.toNat 0)
            ∧ taken 23 [a, b, c, d] (.planRead q a.toNat b.toNat c.toNat d.toNat) ∧ taken 24 [a] (.planStart q a.toNat)
            ∧ taken 25 [] (.planResume q) ∧ taken 26 [] (.planAbandon q) ∧ taken 27 [a, 0] (.syncStepLatch q a.toNat)
            ∧ taken 27 [a, 1] (.syncStepClose q a.toNat) ∧ taken 28 [a] (.syncCancel q a.toNat)
            ∧ taken 29 [a, b] (.genAdmit q a.toNat b.toNat) ∧ taken 30 [a] (.genWithdraw q a.toNat)
            ∧ taken 31 [a] (.clearLockout q a.toNat)
            ∧ (∀ (index value : List Byte) (k : SettingKey), indexWidth a.toNat = some index.length →
                keyOf a.toNat b.toNat (index.map BitVec.toNat) = some k →
                  (value.length = k.width →
                    taken 32 (a :: b :: (index ++ value))
                      (.settingWrite q a.toNat b.toNat (index.map BitVec.toNat) (ofBe value)))
                  ∧ taken 33 (a :: b :: index) (.settingRead q a.toNat b.toNat (index.map BitVec.toNat) 0)
                  ∧ taken 33 (a :: b :: (index ++ [x])) (.settingRead q a.toNat b.toNat (index.map BitVec.toNat) x.toNat))
            ∧ taken 34 [] (.save q) ∧ taken 35 [a] (.setGuard q a.toNat) ∧ taken 36 [] (.hold q) ∧ taken 37 [] (.run q)))
    ∧ ∀ r : PortRec, r.silent = false → r.tx < 128 →
        r.bad = { r with rx := min 255 (r.rx + 1) } ∧ r.good = { r with rx := r.rx - 1 }

/-- A port on its link (R183, R185, R186): an idle link takes the frame kept after lost arbitration, or the first of the urgent notices, the
replies, the other notices and the beacons; lost arbitration keeps the frame; a frame sent cleanly leaves its source and lowers the
transmit count by 1; a transmit error gives the frame up and raises the count by 8, and at 128 the port falls SILENT with its queues
empty. -/
def Obligations.PortEvents : Prop :=
  ∀ (s : State) (i : PortIx),
    (s.base.phase = .running → s.base.node ≠ 31 → s.link.ports[i].silent = false → s.link.ports[i].sending = none →
      (∀ f, s.offerFrame i = some f →
        exec (.linkIdleOffer i) s = .next (s.updPort i fun r => { r with sending := some f, kept := none }).finish)
      ∧ (s.offerFrame i = none → exec (.linkIdleOffer i) s = .next s.finish)
      ∧ (∀ (r : Reply) (rest : List Reply), s.link.ports[i].replies = r :: rest → s.link.ports[i].kept = none →
          (∀ m ∈ s.link.noticesOn i, urgentSet s.link.pendingSets[m] = false) → s.offerFrame i = some r.frame)
      ∧ (∀ (r : Reply) (rest : List Reply), s.link.ports[i].replies = r :: rest → s.link.ports[i].kept = some .reply →
          s.offerFrame i = some r.frame)
      ∧ (∀ (m : MasterIx) (rest : List MasterIx), s.link.ports[i].replies = [] → s.link.ports[i].kept = none →
          s.link.noticesOn i = m :: rest → (∀ x ∈ s.link.noticesOn i, urgentSet s.link.pendingSets[x] = false) →
          s.offerFrame i = some (s.noticeFrame m))
      ∧ (∀ (f : BeaconFrame) (rest : List BeaconFrame), s.link.ports[i].replies = [] → s.link.ports[i].kept = none →
          s.link.noticesOn i = [] → s.link.ports[i].beacons = f :: rest → s.offerFrame i = some f.frame)
      ∧ (∀ (m : MasterIx) (rest : List MasterIx), s.link.ports[i].kept = none → s.link.noticesOn i = m :: rest →
          urgentSet s.link.pendingSets[m] = true → s.offerFrame i = some (s.noticeFrame m)))
    ∧ (∀ f, s.link.ports[i].sending = some f → f.source = .reply →
        exec (.arbitrationLost i) s = .next (s.updPort i fun r => { r with sending := none, kept := some .reply }).finish
        ∧ (s.link.ports[i].silent = false → s.link.ports[i].tx < 128 →
            exec (.frameSentCleanly i) s
              = .next (s.updPort i fun r => { r with replies := r.replies.drop 1, sending := none, tx := r.tx - 1 }).finish)
        ∧ (s.link.ports[i].silent = false → s.link.ports[i].tx < 120 →
            exec (.transmitError i) s
              = .next (s.updPort i fun r => { r with replies := r.replies.drop 1, sending := none, tx := r.tx + 8 }).finish)
        ∧ (s.link.ports[i].silent = false → 120 ≤ s.link.ports[i].tx →
            exec (.transmitError i) s
              = .next (s.updPort i fun r =>
                  { r with replies := [], beacons := [], kept := none, sending := none, tx := min 255 (r.tx + 8)
                           silent := true }).finish))
    ∧ (∀ (f : OutFrame) (m : MasterIx), s.link.ports[i].sending = some f → f.source = .notice m →
        ∃ u : State, exec (.frameSentCleanly i) s = .next u.finish ∧ u.link.noticeDue = s.link.noticeDue.filter (· ≠ m)
          ∧ u.link.pendingSets = s.link.pendingSets ∧ { u with link := s.link } = s)

/-- Notices and the beacon (R187 to R189): a raised class joins the pending set of every master whose mask holds it; READ_NOTICES answers
the set and empties it with its frame withdrawn; when the beacon timer runs out the beacon number rises and three frames replace those
of each port that is not SILENT. -/
def Obligations.NoticesAndBeacon : Prop :=
  (∀ (s : State) (c : NoticeClass) (m : MasterIx),
    (s.raise c).link.pendingSets[m]
        = (if s.set.masters[m].node ≠ none ∧ s.set.masters[m].mask.getLsbD c.bit = true
            then s.link.pendingSets[m] ||| BitVec.twoPow 12 c.bit else s.link.pendingSets[m])
      ∧ { s.raise c with link := s.link } = s)
  ∧ (∀ (s : State) (q : Req) (m : MasterIx), s.hears q m →
      ∃ u : State, exec (.readNotices q) s = .next (u.answered q 2 { code := .done, data := be 2 s.link.pendingSets[m].toNat })
        ∧ u.link.pendingSets = s.link.pendingSets.set m 0 ∧ u.link.noticeDue = s.link.noticeDue.filter (· ≠ m)
        ∧ { u with link := s.link } = s)
  ∧ ∀ s : State, s.link.beaconTimer = some 0 →
      ∃ u : State, exec .beaconTimerExpiry s = .next u.finish ∧ u.link.beaconNumber = s.link.beaconNumber + 1
        ∧ u.link.beaconTimer = some 100 ∧ u.link.pendingSets = s.link.pendingSets ∧ { u with link := s.link } = s
        ∧ ∀ i : PortIx, (s.link.ports[i].silent = true → u.link.ports[i] = s.link.ports[i])
            ∧ (s.link.ports[i].silent = false →
                (u.link.ports[i].beacons.map fun f => (f.ix, f.number)) = [(0, u.link.beaconNumber), (1, u.link.beaconNumber),
                  (2, u.link.beaconNumber)]
                ∧ u.link.ports[i].replies = s.link.ports[i].replies)

/-! ### Section 12 -/

/-- SETTING_WRITE stages an element setting and writes any other item at the event (R195); a write of the combine mode has the effects of
SET_COMBINE, a change of the mode being a layer change for the ledger (R62); what is written is what is read back, but for a master
entry; and SET_GUARD never lowers the level (R197). That bits 12 to 15 of a master entry's notice mask are not looked at is the
model's choice (log 18). -/
def Obligations.SettingsAndGuard : Prop :=
  (∀ (s : State) (q : Req) (m : MasterIx) (row place : Nat) (index : List Nat) (v : Nat) (k : SettingKey) (t : Settings),
    s.hears q m → (s.roleOf m = .stationA ∨ s.roleOf m = .stationB ∨ s.roleOf m = .maint) → keyOf row place index = some k →
    s.set.put k v = some t →
    let cmd := Instr.settingWrite q row place index v
    (k.guardLevel ≤ s.base.guard → exec cmd s = .next ((s.notePort q).answered q 32 { code := .guard }))
    ∧ (s.base.guard < k.guardLevel → k.holdOnly = true → s.modes.mode ≠ .hold →
        exec cmd s = .next ((s.notePort q).answered q 32 { code := .hold }))
    ∧ (s.base.guard < k.guardLevel → (k.holdOnly = true → s.modes.mode = .hold) →
        (∀ p g e, k = .elem p g e →
          exec cmd s
            = .next (State.answered
                { s.notePort q with
                  staged := s.staged.filter (fun x => !(x.pos == p && x.grp == g && x.elem == e)) ++ [⟨p, g, e, v⟩] } q 32
                { code := .done }))
        ∧ ((∀ p g e, k ≠ .elem p g e) → (∀ p, k ≠ .fitted p) → (∀ x, k ≠ .master x) → k ≠ .combine →
            exec cmd s = .next (State.answered { s.notePort q with set := t } q 32 { code := .done }))
        ∧ (k = .combine →
            ∃ c : CombineMode, v = c.code ∧ t = { s.set with combine := c }
              ∧ (s.set.combine ≠ c →
                  exec cmd s = .next (State.answered (State.hand { s.notePort q with set := { s.set with combine := c } } .layerLedger) q 32
                    { code := .done }))
              ∧ (s.set.combine = c → exec cmd s = .next ((s.notePort q).answered q 32 { code := .done })))
        ∧ (∀ p, k = .fitted p →
            exec cmd s = .next ((State.takeFitting { s.notePort q with set := t } p).answered q 32 { code := .done }))
        ∧ (∀ x, k = .master x →
            ∃ u : State, exec cmd s = .next (u.answered q 32 { code := .done }) ∧ u.set = t ∧ u.link.pendingSets[x] = 0
              ∧ u.link.lastPort[x] = none ∧ { u with set := s.set, link := s.link } = s)))
  ∧ (∀ (t u : Settings) (k : SettingKey) (v : Nat), v < 2 ^ 48 → (∀ x, k ≠ .master x) → t.put k v = some u → u.get k = v)
  ∧ ∀ (s : State) (q : Req) (m : MasterIx) (level : Nat), s.hears q m → (s.roleOf m = .stationA ∨ s.roleOf m = .stationB) →
      (3 < level → exec (.setGuard q level) s = .next ((s.notePort q).answered q 35 { code := .range }))
      ∧ (level < s.base.guard → level ≤ 3 → exec (.setGuard q level) s = .next ((s.notePort q).answered q 35 { code := .guard }))
      ∧ (s.base.guard ≤ level → level ≤ 3 →
          ∃ u : State, exec (.setGuard q level) s = .next (u.answered q 35 { code := .done })
            ∧ u.base = { s.base with guard := level } ∧ { u with base := s.base, link := s.link } = s)

/-- SAVE captures the working copy with every staged write applied, and its end leaves the capture as the stored image, one in progress at a
warm reset not before the reset is over (R196); that a save completes at any time within its bound is the model's choice (log 11). HOLD,
RUN and the end of SETTLE, with the channels a complete round covers (R198, R199); that the row SETTLE_COMPLETE acts by itself when the
count stands is the model's reading (log 6). What the entry to HOLD hands on: permits revoked and the wait list emptied with news (R52; that
a master's REVOKED entry stands before its WAIT_CANCELLED entry is the model's choice, log 42), the pending closes of a group cancelled
(R76), a plan abandoned (R147), the synchronizer released (R162). -/
def Obligations.SaveAndModes : Prop :=
  (∀ (s : State) (q : Req) (m : MasterIx), s.hears q m →
    ((s.roleOf m = .stationA ∨ s.roleOf m = .stationB ∨ s.roleOf m = .maint) →
      (s.base.guard < 3 → s.base.save = none →
        ∃ u : State, exec (.save q) s = .next (u.answered q 34 { code := .accepted })
          ∧ u.base = { s.base with save := some ⟨s.set.applyAll s.staged, some 400⟩ }
          ∧ { u with base := s.base, link := s.link } = s)
      ∧ (s.base.guard < 3 → s.base.save ≠ none → exec (.save q) s = .next ((s.notePort q).answered q 34 { code := .busy }))
      ∧ (3 ≤ s.base.guard → exec (.save q) s = .next ((s.notePort q).answered q 34 { code := .guard }))
      ∧ (s.modes.mode ≠ .hold →
          ∃ u : State, exec (.hold q) s = .next (u.answered q 36 { code := .done }) ∧ u.modes = ⟨.hold, .request, 0⟩
            ∧ u.inbox = s.inbox ++ [.holdAuthority .request, .holdGroup, .holdEngine .request, .holdSync]
            ∧ { u with modes := s.modes, inbox := s.inbox, link := s.link } = s)
      ∧ (s.modes.mode = .hold → exec (.hold q) s = .next ((s.notePort q).answered q 36 { code := .done })))
    ∧ ((s.roleOf m = .stationA ∨ s.roleOf m = .stationB) →
      (s.base.stopLine = true → exec (.run q) s = .next ((s.notePort q).answered q 37 { code := .stopActive }))
      ∧ (s.base.stopLine = false → s.base.settingsInvalid = true →
          exec (.run q) s = .next ((s.notePort q).answered q 37 { code := .settingsInvalid }))
      ∧ (s.base.stopLine = false → s.base.settingsInvalid = false → s.modes.mode = .hold →
          ∃ u : State, exec (.run q) s = .next (u.answered q 37 { code := .accepted })
            ∧ u.modes = { s.modes with mode := .settle, settle := 0 } ∧ { u with modes := s.modes, link := s.link } = s)
      ∧ (s.base.stopLine = false → s.base.settingsInvalid = false → s.modes.mode ≠ .hold →
          exec (.run q) s = .next ((s.notePort q).answered q 37 { code := .done }))))
  ∧ (∀ s : State, s.modes.mode = .settle → 64 ≤ s.modes.settle →
      ∃ u : State, exec .settleComplete s = .next u.finish ∧ u.modes = { s.modes with mode := .run, settle := 0 }
        ∧ u.inbox = s.inbox ++ [.runScenarios] ∧ { u with modes := s.modes, inbox := s.inbox, link := s.link } = s)
  ∧ (∀ s : State, s.modes.mode = .settle →
      (s.roundComplete = false → s.settleRound = { s with modes := { s.modes with settle := 0 } })
      ∧ (s.roundComplete = true → s.modes.settle < 63 →
          s.settleRound = { s with modes := { s.modes with settle := s.modes.settle + 1 } })
      ∧ (s.roundComplete = true → s.modes.settle = 63 → s.settleRound.modes.mode = .run))
  ∧ (∀ s : State, s.roundComplete = true ↔
      (∃ r, s.meas.round = some r ∧ r.byMarker = true)
        ∧ (∀ c : Chan, c = 25 ∨ c = 26 ∨ c = 27 ∨ (c = 23 ∧ s.fitted 0 = true) ∨ (c = 24 ∧ s.fitted 1 = true)
            ∨ (∃ p : Pos, s.fitted p = true ∧ (c = currentChan p ∨ (5 ≤ p.val ∧ p.val ≤ 10 ∧ c.val = p.val + 23))) →
            s.meas.chans[c].status = .present))
  ∧ (∀ (s : State) (c : HoldCause),
      let u := s.handle (.holdAuthority c)
      let why := if c = .stop then NewsCause.stop else .hold
      (∀ p : Pos, u.auth.permits[p] = none) ∧ u.auth.waits = [] ∧ { u with auth := s.auth, link := s.link } = s
        ∧ ∀ m : MasterIx, (s.auth.waits.map (·.requester)).Nodup →
            let o := maskOf (allPos.filter fun p => s.auth.permits[p].any fun x => match x with
              | .operate h _ => h == m
              | _ => false)
            let mt := maskOf (allPos.filter fun p => s.auth.permits[p] == some (.maintenance m))
            let v := if o = 0 ∧ mt = 0 then s else s.pushNews m .revoked o mt (some why)
            ((∀ e ∈ s.auth.waits, e.requester ≠ m) → u.auth.news[m] = v.auth.news[m])
            ∧ ∀ e ∈ s.auth.waits, e.requester = m →
                u.auth.news[m] = ((match e.kind with
                  | .operate => v.pushNews m .waitCancelled e.mask 0 (some why)
                  | .maintenance => v.pushNews m .waitCancelled 0 e.mask (some why)) : State).auth.news[m])
  ∧ (∀ s : State,
      let u := s.handle .holdGroup
      let ended := s.inter.group.phase = .deadTime
      u.inter.group = { s.inter.group with
          phase := if ended then .idle else s.inter.group.phase, dead := if ended then none else s.inter.group.dead
          list := s.inter.group.list.map fun e => if e.close && e.result == .pending then { e with result := .cancelled } else e }
        ∧ { u with inter := { u.inter with group := s.inter.group }, link := s.link } = s)
  ∧ (∀ (s : State) (c : HoldCause), s.modes.mode = .hold →
      let u := s.handle (.holdEngine c)
      (s.eng.state = .idle → u = s)
      ∧ (s.eng.state ≠ .idle →
          u.eng = { s.eng with
              state := .idle, run := none, stepTimer := .idle, poll := none, marks := {}, pendingSc := none
              lastNot := match s.eng.pendingSc with
                | some x => some (x, .noLongerStands)
                | none => s.eng.lastNot
              result := s.eng.result.map fun r => { r with outcome := some (.abandoned (match c with
                | .stop => .stop
                | .secondFailure => .secondFailure
                | _ => .hold)) } }
            ∧ (∀ p : Pos, u.auth.permits[p] = if s.auth.permits[p] = some .engine then none else s.auth.permits[p])
            ∧ u.auth.waits = s.auth.waits ∧ u.auth.news = s.auth.news ∧ u.pos = s.pos))
  ∧ (∀ s : State,
      let u := s.handle .holdSync
      let ends := s.sync.target ≠ none ∧ s.sync.state ≠ .closing ∧ s.sync.state ≠ .idle
      u.sync.waits = []
        ∧ (ends → u.sync.state = .idle ∧ u.sync.target = none ∧ u.sync.att = {})
        ∧ (¬ ends → u.sync.state = s.sync.state ∧ u.sync.target = s.sync.target ∧ u.sync.att = s.sync.att)
        ∧ (∀ x ∈ u.sync.outcomes, x ∈ s.sync.outcomes
            ∨ (x.outcome = .cancelled ∧ x.stamp = s.base.timeBase ∧ (x.entry ∈ s.sync.waits ∨ s.sync.target = some x.entry)))
        ∧ (s.sync.waits.length + (if ends then 1 else 0) ≤ 8 → s.sync.outcomes.length ≤ 8 → s.sync.waits.Nodup →
            ∀ e, e ∈ s.sync.waits ∨ (ends ∧ s.sync.target = some e) → ∃ x ∈ u.sync.outcomes, x.entry = e ∧ x.outcome = .cancelled)
        ∧ { u with sync := s.sync, inbox := s.inbox, link := s.link } = s)
  ∧ ∀ (s : State) (g : SaveProg), s.base.save = some g →
      (s.base.phase = .running →
        ∃ u : State, exec .saveComplete s = .next u.finish
          ∧ u.base = { s.base with image := some g.capture, save := none, settingsInvalid := false }
          ∧ { u with base := s.base, link := s.link } = s)
      ∧ (s.base.phase = .warmReset → exec .saveComplete s = .next s.finish)

/-! ### Reset -/

/-- Power-on reset and loss of power (R21, R102, R194, R196, R200): the settings come from the stored image or the built-in defaults, the
lock flags from the lock word, the positions from the contacts, the mode is HOLD, and the measurement port, the permits, the layers, the
group, the sources, the engine and the synchronizer start afresh, as do the joins and the protection unit from the sample (R77, R96), the
ledger (R182) and the station link (R191). A STOP line found asserted is then taken as an assertion (R111). A save cut off by the loss
leaves no stored image. Power-on of the part of State.reset gives State.reset (log 8, log 9); that the element settings read before any
boundary are the built-in ones is the model's choice (log 31). -/
def Obligations.PowerOnAndLossOfPower : Prop :=
  exec .powerOnReset State.reset = .next State.reset
  ∧ (∀ s : State,
      let cut := s.base.phase ≠ .off ∧ s.base.save ≠ none
      let image := if cut then none else s.base.image
      let set := image.getD Settings.builtIn
      ∃ u v : State, exec .powerOnReset s = .next u.finish ∧ u = (if s.base.stopLine then v.doStop else v)
        ∧ u.base = { s.base with
            phase := .running, node := s.base.straps, timeBase := 0, image := image, save := none
            settingsInvalid := image.isNone, guard := set.initialGuard }
        ∧ u.set = set ∧ u.staged = [] ∧ u.modes.mode = .hold ∧ u.pending = s.pending ∧ u.meas = State.reset.meas
        ∧ u.auth = State.reset.auth ∧ u.eng = {} ∧ u.sync = {} ∧ u.src = { auto := set.autoDefault }
        ∧ u.inter.layerA = Layer.powerOn ∧ u.inter.layerB = Layer.powerOn ∧ u.inter.group = {}
        ∧ (s.base.stopLine = true → u.modes.cause = .stop)
        ∧ v.base = u.base ∧ v.set = set ∧ v.modes = ⟨.hold, if image = none then .settingsInvalid else .powerOn, 0⟩
        ∧ v.router = { active := Vector.replicate 23 none } ∧ v.inbox = [] ∧ v.lockAsk = false ∧ sampledBlocks v
        ∧ freshStation v.link 0 (some 100)
        ∧ v.led = { gens := Vector.ofFn fun g => { state := if v.pos[genPos g].state = .closed then .online else .stopped } }
        ∧ ∀ p : Pos,
            let fb := decodeContacts s.base.contacts[p].1 s.base.contacts[p].2
            v.pos[p]
              = { state := if set.pos[p].fitted then fb.restState else .unfitted
                  feedback := if set.pos[p].fitted then fb else .absent
                  tripLocked := s.base.lockWord[p].locked, bf := s.base.lockWord[p].bf })
  ∧ ∀ s : State,
      exec .lossOfPower s
        = .next
          { State.reset with
            base :=
              { phase := .off, contacts := s.base.contacts, stopLine := s.base.stopLine, straps := s.base.straps, node := 0
                timeBase := 0, image := if s.base.save.isSome then none else s.base.image, lockWord := s.base.lockWord
                save := none, settingsInvalid := false, guard := 0 }
            choices := s.choices, choiceCount := s.choiceCount, pending := s.pending }

/-- Warm reset and its end (R22, R35, R56, R77, R96, R116, R131, R149, R165, R182, R191, R200): what each section keeps is kept, every
other value named starts again, the joins, the protection unit and the ledger from the contact sample and the station link with nothing
queued, and the timers of the boundary and the beacon start at the end of the reset, where the sample is made again (log 10). A STOP line
found asserted at the end is taken as an assertion. That the element settings read before any boundary are the built-in ones is the model's
choice (log 31). -/
def Obligations.WarmResetAndItsEnd : Prop :=
  (∀ s : State, s.base.phase = .running →
    ∃ u : State, exec .warmReset s = .next u
      ∧ u.base = { s.base with phase := .warmReset } ∧ u.set = s.set ∧ u.staged = s.staged ∧ u.pending = s.pending
      ∧ u.modes = ⟨.hold, .warmReset, 0⟩ ∧ u.auth = State.reset.auth ∧ u.sync = {} ∧ u.src = { auto := s.src.auto }
      ∧ u.inter.layerA = { s.inter.layerA with staging := none } ∧ u.inter.layerB = { s.inter.layerB with staging := none }
      ∧ u.inter.group = {}
      ∧ u.router = { s.router with
          active := Vector.replicate 23 none, stopPending := []
          ring := s.router.ring.map fun r => if r.outcome = .opened then { r with outcome := .resetLost } else r }
      ∧ (s.eng.state = .idle → u.eng = { result := s.eng.result })
      ∧ (s.eng.state ≠ .idle → u.eng = { result := s.eng.result.map fun r => { r with outcome := some .reset } })
      ∧ freshStation u.link s.link.beaconNumber none ∧ u.meas = { State.reset.meas with roundTimer := none }
      ∧ u.lockAsk = false ∧ u.inbox = [] ∧ sampledBlocks u ∧ u.led = { gens := u.led.gens }
      ∧ (∀ g : GenIx,
          let r := s.led.gens[g]
          u.led.gens[g]
            = { state := if r.state = .lockedOut ∨ r.state = .readmit then r.state
                  else if u.pos[genPos g].state = .closed then .online else .stopped
                failures := r.failures, warning := r.warning, lastFailure := r.lastFailure })
      ∧ ∀ p : Pos,
          let fb := decodeContacts s.base.contacts[p].1 s.base.contacts[p].2
          u.pos[p]
            = { state := if s.set.pos[p].fitted then fb.restState else .unfitted
                feedback := if s.set.pos[p].fitted then fb else s.pos[p].feedback
                tripLocked := s.pos[p].tripLocked, bf := s.pos[p].bf, lastStamp := s.base.timeBase })
  ∧ ∀ s : State, s.base.phase = .warmReset →
      ∃ u v : State, exec .warmResetEnd s = .next u.finish ∧ u = (if s.base.stopLine then v.doStop else v)
        ∧ u.base = { s.base with phase := .running, node := s.base.straps } ∧ v.base = u.base
        ∧ u.set = s.set ∧ u.meas = State.reset.meas ∧ u.link.beaconTimer = some 100
        ∧ v.meas = State.reset.meas ∧ freshStation v.link s.link.beaconNumber (some 100) ∧ sampledBlocks v
        ∧ v.led = { gens := v.led.gens }
        ∧ (∀ g : GenIx,
            let r := s.led.gens[g]
            v.led.gens[g]
              = { state := if r.state = .lockedOut ∨ r.state = .readmit then r.state else v.freeGenState g
                  failures := r.failures, warning := r.warning, lastFailure := r.lastFailure })
        ∧ { v with
            base := s.base, pos := s.pos, feeds := s.feeds, meas := s.meas, prot := s.prot, led := s.led, link := s.link
            inter := { v.inter with joins := s.inter.joins } } = s
        ∧ ∀ p : Pos,
            let fb := decodeContacts s.base.contacts[p].1 s.base.contacts[p].2
            v.pos[p]
              = { state := if s.set.pos[p].fitted then fb.restState else .unfitted
                  feedback := if s.set.pos[p].fitted then fb else s.pos[p].feedback
                  tripLocked := s.pos[p].tripLocked, bf := s.pos[p].bf, lastStamp := s.base.timeBase }

/-! ### What every step keeps -/

/-- The invariants below hold right after reset. -/
def Obligations.InvariantsAtReset : Prop :=
  State.reset.positionsFit ∧ State.reset.storesFit ∧ State.reset.invalidHolds ∧ State.reset.guardsFit

/-- Every step keeps the feed sets those of the position table, a pulse origin exactly while a pulse is in flight, and the bounded stores
within their bounds (R3, R19, R43, R53, R112, R150, R164). -/
def Obligations.PositionsAndStoresKept : Prop :=
  (∀ s t : State, s.positionsFit → step s = .next t → t.positionsFit)
  ∧ ∀ s t : State, s.storesFit → step s = .next t → t.storesFit

/-- Every step keeps settings that failed their check holding the part in HOLD, and every guard level a level; and no command but a change
of the supply lowers the guard level (R194, R197, R199). -/
def Obligations.ModesAndGuardKept : Prop :=
  (∀ s t : State, s.invalidHolds → step s = .next t → t.invalidHolds)
  ∧ (∀ s t : State, s.guardsFit → step s = .next t → t.guardsFit)
  ∧ ∀ (c : Instr) (s t : State), exec c s = .next t → changesSupply c = false → s.base.guard ≤ t.base.guard

/-- The lock word changes only where a lock-word program completes, and the stored image only where a save completes or the supply changes
(R102, R196). -/
def Obligations.NonVolatileStoresKept : Prop :=
  (∀ (c : Instr) (s t : State), exec c s = .next t → c ≠ .lockWordProgramComplete → t.base.lockWord = s.base.lockWord)
  ∧ ∀ (c : Instr) (s t : State), exec c s = .next t → c ≠ .saveComplete → changesSupply c = false → t.base.image = s.base.image

end
end

