-- ==== Sys2Proof/Laws/Outer.lean ====
section
/-! SUPPORT. What the operations of the blocks keep: `outer`, the part of the state that only the commands themselves change. -/

namespace Sys2Proof.Machine

/-- The part of the state that what a block does inside a command leaves alone: the base, the measurement port, the queue, the settings and
the operating mode. -/
def State.outer (s : State) : Base × Meas × List Instr × Settings × List StagedWrite × Modes :=
  (s.base, s.meas, s.pending, s.set, s.staged, s.modes)

/-- A fold of steps that each keep `outer` keeps it. -/
theorem foldl_outer {α : Type} (f : State → α → State) (h : ∀ s x, (f s x).outer = s.outer) (xs : List α) (s : State) :
    (xs.foldl f s).outer = s.outer := by
  induction xs generalizing s with
  | nil => rfl
  | cons x xs ih => rw [List.foldl_cons, ih, h]

theorem choose_outer (s : State) (k : Nat) : (s.choose k).2.outer = s.outer := by
  unfold State.choose; (repeat' split) <;> rfl

theorem permute_outer {α : Type} (n : Nat) (xs : List α) (s : State) : (State.permute n xs s).2.outer = s.outer := by
  induction n generalizing xs s with
  | zero => rfl
  | succ n ih =>
    unfold State.permute
    dsimp only
    split
    · exact choose_outer s _
    · simp only [ih, choose_outer]

theorem anyOrder_outer {α : Type} (s : State) (xs : List α) : (s.anyOrder xs).2.outer = s.outer := permute_outer _ _ _

theorem updEng_outer (s : State) (f : Engine → Engine) : (s.updEng f).outer = s.outer := rfl

theorem updLed_outer (s : State) (f : Ledger → Ledger) : (s.updLed f).outer = s.outer := rfl

theorem updPos_outer (s : State) (p : Pos) (f : PosRec → PosRec) : (State.updPos s p f).outer = s.outer := rfl

theorem hand_outer (s : State) (w : Handed) : (State.hand s w).outer = s.outer := rfl

theorem raise_outer (s : State) (c : NoticeClass) : (State.raise s c).outer = s.outer := by
  unfold State.raise
  grind [State.outer, foldl_outer]

theorem raiseFor_outer (s : State) (m : MasterIx) (c : NoticeClass) : (State.raiseFor s m c).outer = s.outer := rfl

theorem raiseIf_outer (s : State) (b : Bool) (c : NoticeClass) : (State.raiseIf s b c).outer = s.outer := by
  unfold State.raiseIf
  (repeat' split) <;> simp only [raise_outer]

theorem setPosState_outer (s : State) (p : Pos) (st : PosState) (k : ChangeKind) :
    (State.setPosState s p st k).outer = s.outer := by
  unfold State.setPosState
  grind [State.outer, raise_outer, updPos_outer]

theorem recordOutcome_outer (s : State) (p : Pos) (oc : PulseOutcome) (o : Origin) :
    (State.recordOutcome s p oc o).outer = s.outer := by
  simp only [State.recordOutcome, raise_outer, updPos_outer]

theorem report_outer (s : State) (p : Pos) (oc : PulseOutcome) (closing : Bool) (o : Origin) :
    (State.report s p oc closing o).outer = s.outer := by
  unfold State.report
  grind [State.outer, recordOutcome_outer]

theorem reportTo_outer (s : State) (p : Pos) (oc : PulseOutcome) (closing : Bool) (o : Option Origin) :
    (State.reportTo s p oc closing o).outer = s.outer := by
  unfold State.reportTo
  (repeat' split) <;> simp only [report_outer]

theorem completeRecord_outer (s : State) (rec : Option (BitVec 16)) (f : FaultRec → FaultOutcome) :
    (State.completeRecord s rec f).outer = s.outer := by
  unfold State.completeRecord
  grind [State.outer, raise_outer]

theorem setActive_outer (s : State) (p : Pos) (a : Option ActiveTrip) : (State.setActive s p a).outer = s.outer := rfl

theorem tripCleared_outer (s : State) (p : Pos) : (State.tripCleared s p).outer = s.outer := by
  unfold State.tripCleared
  (repeat' split) <;> simp only [completeRecord_outer, setActive_outer]

theorem askLock_outer (s : State) : (State.askLock s).outer = s.outer := rfl

theorem settleLock_outer (s : State) : (State.settleLock s).outer = s.outer := by
  unfold State.settleLock
  (repeat' split) <;> rfl

theorem pulseUpstream_outer (s : State) (l : Upstream) : (State.pulseUpstream s l).outer = s.outer := by
  unfold State.pulseUpstream
  (repeat' split) <;> rfl

theorem unfit_outer (s : State) (p : Pos) : (State.unfit s p).outer = s.outer := by
  unfold State.unfit
  grind [State.outer, setPosState_outer, updPos_outer]

theorem fit_outer (s : State) (p : Pos) : (State.fit s p).outer = s.outer := by
  simp only [State.fit, setPosState_outer, updPos_outer]

theorem takeFitting_outer (s : State) (p : Pos) : (State.takeFitting s p).outer = s.outer := by
  unfold State.takeFitting
  (repeat' split) <;> simp only [fit_outer, unfit_outer]

theorem endPulse_outer (s : State) (p : Pos) (st : PosState) (oc : PulseOutcome) :
    (State.endPulse s p st oc).outer = s.outer := by
  simp only [State.endPulse, reportTo_outer, setPosState_outer, takeFitting_outer, updPos_outer]

theorem goFaulty_outer (s : State) (p : Pos) (k : ChangeKind) : (State.goFaulty s p k).outer = s.outer := by
  simp only [State.goFaulty, setPosState_outer, updPos_outer]

theorem superviseFail_outer (s : State) (p : Pos) (k : ChangeKind) : (State.superviseFail s p k).outer = s.outer := by
  unfold State.superviseFail
  (repeat' split) <;> simp only [goFaulty_outer, reportTo_outer, takeFitting_outer]

theorem travelExpiry_outer (s : State) (p : Pos) : (State.travelExpiry s p).outer = s.outer := by
  unfold State.travelExpiry
  (repeat' split) <;> simp only [superviseFail_outer]

theorem discExpiry_outer (s : State) (p : Pos) : (State.discExpiry s p).outer = s.outer := by
  unfold State.discExpiry
  (repeat' split) <;> simp only [superviseFail_outer]

theorem recoveryExpiry_outer (s : State) (p : Pos) : (State.recoveryExpiry s p).outer = s.outer := by
  unfold State.recoveryExpiry
  (repeat' split) <;> simp only [setPosState_outer, updPos_outer]

theorem closeRunsOut_outer (s : State) (p : Pos) : (State.closeRunsOut s p).outer = s.outer := by
  simp only [State.closeRunsOut, endPulse_outer]

theorem closeExpiry_outer (s : State) (p : Pos) : (State.closeExpiry s p).outer = s.outer := by
  unfold State.closeExpiry
  (repeat' split) <;> simp only [closeRunsOut_outer]

theorem openExpiry_outer (s : State) (p : Pos) : (State.openExpiry s p).outer = s.outer := by
  unfold State.openExpiry
  (repeat' split) <;> simp only [goFaulty_outer, reportTo_outer, takeFitting_outer]

theorem endDrive_outer (s : State) (p : Pos) : (State.endDrive s p).outer = s.outer := by
  unfold State.endDrive
  (repeat' split) <;> simp only [closeRunsOut_outer]

theorem tripOpened_outer (s : State) (p : Pos) : (State.tripOpened s p).outer = s.outer := by
  simp only [State.tripOpened, recordOutcome_outer, setPosState_outer, takeFitting_outer, tripCleared_outer, updPos_outer]

theorem endTripDrive_outer (s : State) (p : Pos) : (State.endTripDrive s p).2.outer = s.outer := by
  unfold State.endTripDrive
  (repeat' split) <;> simp only [recordOutcome_outer, setPosState_outer, updPos_outer]

theorem actOnFeedback_outer (s : State) (p : Pos) : (State.actOnFeedback s p).outer = s.outer := by
  unfold State.actOnFeedback
  (repeat' split) <;> simp only [endPulse_outer, setPosState_outer, tripOpened_outer]

theorem startClose_outer (s : State) (p : Pos) (o : Origin) (req : Option MasterIx) :
    (State.startClose s p o req).outer = s.outer := by
  simp only [State.startClose, setPosState_outer, updPos_outer]

theorem startOpen_outer (s : State) (p : Pos) (o : Origin) (req : Option MasterIx) :
    (State.startOpen s p o req).outer = s.outer := by
  simp only [State.startOpen, setPosState_outer, updPos_outer]

theorem closeRequest_outer (s : State) (p : Pos) (o : Origin) (req : Option MasterIx) :
    (State.closeRequest s p o req).2.outer = s.outer := by
  unfold State.closeRequest
  (repeat' split) <;> simp only [recordOutcome_outer, startClose_outer]

theorem openRequest_outer (s : State) (p : Pos) (o : Origin) (req : Option MasterIx) :
    (State.openRequest s p o req).2.outer = s.outer := by
  unfold State.openRequest
  (repeat' split) <;> simp only [recordOutcome_outer, startOpen_outer]

theorem startTrip_outer (s : State) (p : Pos) : (State.startTrip s p).outer = s.outer := by
  simp only [State.startTrip, reportTo_outer, setPosState_outer, updPos_outer]

theorem tripAtOnce_outer (s : State) (p : Pos) : (State.tripAtOnce s p).outer = s.outer := by
  simp only [State.tripAtOnce, recordOutcome_outer, setPosState_outer, updPos_outer]

theorem tripPulse_outer (s : State) (p : Pos) : (State.tripPulse s p).2.outer = s.outer := by
  unfold State.tripPulse
  (repeat' split) <;> simp only [startTrip_outer, tripAtOnce_outer]

theorem lockFor_outer (s : State) (p : Pos) (c : TripCause) : (State.lockFor s p c).outer = s.outer := by
  unfold State.lockFor
  (repeat' split) <;> simp only [askLock_outer, updPos_outer]

theorem setBf_outer (s : State) (p : Pos) : (State.setBf s p).outer = s.outer := by
  simp only [State.setBf, askLock_outer, updPos_outer]

theorem storeRecord_outer (s : State) (p : Pos) (c : TripCause) (value : Option Nat) (grp : Grp) (parent : Option (BitVec 16)) :
    (State.storeRecord s p c value grp parent).2.outer = s.outer := by
  unfold State.storeRecord
  grind [State.outer, raise_outer]

theorem handTrip_outer (s : State) (p : Pos) (c : TripCause) : (State.handTrip s p c).outer = s.outer := by
  unfold State.handTrip
  (repeat' split) <;> simp only [hand_outer]

theorem tripStarted_outer (s : State) (p : Pos) (c : TripCause) (value : Option Nat) (grp : Grp) (parent : Option (BitVec 16)) :
    (State.tripStarted s p c value grp parent).outer = s.outer := by
  simp only [State.tripStarted, handTrip_outer, lockFor_outer, raise_outer, setActive_outer, storeRecord_outer]

theorem tripDoneAtOnce_outer (s : State) (p : Pos) (c : TripCause) : (State.tripDoneAtOnce s p c).outer = s.outer := by
  simp only [State.tripDoneAtOnce, handTrip_outer, lockFor_outer, raise_outer]

theorem secondaryCause_outer (s : State) (p : Pos) (c : TripCause) : (State.secondaryCause s p c).outer = s.outer := by
  unfold State.secondaryCause
  grind [State.outer, lockFor_outer, raise_outer, setActive_outer]

theorem tripRequest_outer (s : State) (p : Pos) (c : TripCause) (value : Option Nat) (grp : Grp) (parent : Option (BitVec 16)) :
    (State.tripRequest s p c value grp parent).outer = s.outer := by
  unfold State.tripRequest
  grind [secondaryCause_outer, tripDoneAtOnce_outer, tripPulse_outer, tripStarted_outer]

theorem tripPlain_outer (s : State) (p : Pos) (c : TripCause) (parent : Option (BitVec 16)) :
    (State.tripPlain s p c parent).outer = s.outer := by
  simp only [State.tripPlain, tripRequest_outer]

theorem backupTrips_outer (s : State) (ps : List Pos) (parent : Option (BitVec 16)) :
    (State.backupTrips s ps parent).outer = s.outer := by
  unfold State.backupTrips
  grind [tripPlain_outer, foldl_outer]

theorem upstreamExpiry_outer (s : State) (l : Upstream) : (State.upstreamExpiry s l).outer = s.outer := by
  unfold State.upstreamExpiry
  (repeat' split) <;> rfl

theorem stopLater_outer (s : State) (p : Pos) : (State.stopLater s p).outer = s.outer := by
  unfold State.stopLater
  (repeat' split) <;> rfl

theorem stopOne_outer (s : State) (p : Pos) : (State.stopOne s p).outer = s.outer := by
  unfold State.stopOne
  (repeat' split) <;> simp only [stopLater_outer, tripPlain_outer]

theorem stopPendingChange_outer (s : State) (p : Pos) (was : PosState) : (State.stopPendingChange s p was).outer = s.outer := by
  unfold State.stopPendingChange
  grind [State.outer, tripPlain_outer]

theorem recordRelease_outer (s : State) (seq : Nat) : (State.recordRelease s seq).2.outer = s.outer := by
  unfold State.recordRelease
  (repeat' split) <;> rfl

theorem answer_outer (s : State) (r : Result) (data : List Byte) : (State.answer s r data).2.outer = s.outer := rfl

theorem setPermit_outer (s : State) (p : Pos) (v : Option Permit) : (State.setPermit s p v).outer = s.outer := rfl

theorem renew_outer (s : State) (m : MasterIx) (p : Pos) : (State.renew s m p).outer = s.outer := by
  simp only [State.renew, setPermit_outer]

theorem grant_outer (s : State) (m : MasterIx) (k : PermitKind) (mask : PosMask) : (State.grant s m k mask).outer = s.outer := by
  unfold State.grant
  grind [setPermit_outer, foldl_outer]

theorem pushNews_outer (s : State) (m : MasterIx) (oc : NewsOutcome) (operate maintenance : PosMask) (cause : Option NewsCause) :
    (State.pushNews s m oc operate maintenance cause).outer = s.outer := by
  unfold State.pushNews
  grind [State.outer, raiseFor_outer]

theorem pushKindNews_outer (s : State) (m : MasterIx) (oc : NewsOutcome) (k : PermitKind) (mask : PosMask) (cause : Option NewsCause) :
    (State.pushKindNews s m oc k mask cause).outer = s.outer := by
  unfold State.pushKindNews
  (repeat' split) <;> simp only [pushNews_outer]

theorem scanFrom_outer (es : List WaitEntry) (claimed : PosMask) (kept : List WaitEntry) (s : State) :
    (State.scanFrom es claimed kept s).2.outer = s.outer := by
  induction es generalizing claimed kept s with
  | nil => rfl
  | cons e es ih =>
    unfold State.scanFrom
    split
    · rw [ih, pushKindNews_outer, grant_outer]
    · rw [ih]

theorem scan_outer (s : State) : (State.scan s).outer = s.outer := by
  unfold State.scan
  grind [State.outer, scanFrom_outer]

theorem leaseExpiry_outer (s : State) (p : Pos) : (State.leaseExpiry s p).outer = s.outer := by
  unfold State.leaseExpiry
  (repeat' split) <;> simp only [pushNews_outer, scan_outer, setPermit_outer]

theorem waitExpiry_outer (s : State) (m : MasterIx) : (State.waitExpiry s m).outer = s.outer := by
  unfold State.waitExpiry
  grind [State.outer, pushKindNews_outer, scan_outer]

theorem permitWait_outer (s : State) (m : MasterIx) (k : PermitKind) (mask : PosMask) (wait : Bool) (time : Nat) :
    (State.permitWait s m k mask wait time).2.outer = s.outer := by
  unfold State.permitWait
  grind [State.outer, answer_outer]

theorem permitReq_outer (s : State) (m : MasterIx) (mask : PosMask) (kind : Nat) (wait : Bool) (time : Nat) :
    (State.permitReq s m mask kind wait time).2.outer = s.outer := by
  unfold State.permitReq
  (repeat' split) <;> simp only [answer_outer, grant_outer, permitWait_outer]

theorem permitRelease_outer (s : State) (m : MasterIx) (mask : PosMask) (withdraw : Bool) :
    (State.permitRelease s m mask withdraw).2.outer = s.outer := by
  unfold State.permitRelease
  grind [State.outer, answer_outer, scan_outer, setPermit_outer, foldl_outer]

theorem permitRenew_outer (s : State) (m : MasterIx) (mask : PosMask) : (State.permitRenew s m mask).2.outer = s.outer := by
  unfold State.permitRenew
  grind [answer_outer, renew_outer, foldl_outer]

theorem engineRevokes_outer (lost : State) (set : PosMask) (s : State) (m : MasterIx) :
    (State.engineRevokes lost set s m).outer = s.outer := by
  unfold State.engineRevokes
  grind [pushNews_outer]

theorem engineTakes_outer (s : State) (p : Pos) : (State.engineTakes s p).outer = s.outer := by
  unfold State.engineTakes
  (repeat' split) <;> simp only [setPermit_outer]

theorem engineStartPermits_outer (s : State) (set : PosMask) (t : State) :
    State.engineStartPermits s set = some t → t.outer = s.outer := by
  unfold State.engineStartPermits
  grind [engineRevokes_outer, engineTakes_outer, scan_outer, foldl_outer]

theorem engineRelease_outer (s : State) : (State.engineRelease s).outer = s.outer := by
  unfold State.engineRelease
  grind [scan_outer, setPermit_outer, foldl_outer]

theorem holdNews_outer (lost : State) (c : HoldCause) (s : State) (m : MasterIx) :
    (State.holdNews lost c s m).outer = s.outer := by
  unfold State.holdNews
  grind [pushKindNews_outer, pushNews_outer]

theorem authorityHold_outer (s : State) (c : HoldCause) : (State.authorityHold s c).outer = s.outer := by
  unfold State.authorityHold
  grind [State.outer, holdNews_outer, foldl_outer]

theorem updAttempt_outer (s : State) (f : Attempt → Attempt) : (State.updAttempt s f).outer = s.outer := rfl

theorem setSync_outer (s : State) (st : SyncState) : (State.setSync s st).outer = s.outer := rfl

theorem tellLedger_outer (s : State) (e : SyncEntry) (oc : Option SyncOutcome) : (State.tellLedger s e oc).outer = s.outer := by
  unfold State.tellLedger
  (repeat' split) <;> simp only [hand_outer]

theorem tellOutcome_outer (s : State) (e : SyncEntry) (oc : SyncOutcome) (tellEngine : Bool) :
    (State.tellOutcome s e oc tellEngine).outer = s.outer := by
  unfold State.tellOutcome
  (repeat' split) <;> simp only [hand_outer]

theorem syncEnd_outer (s : State) (e : SyncEntry) (oc : SyncOutcome) (d : Option SyncDetail) (tellEngine : Bool) :
    (State.syncEnd s e oc d tellEngine).outer = s.outer := by
  unfold State.syncEnd
  grind [State.outer, raise_outer, tellOutcome_outer]

theorem endAttempt_outer (s : State) (oc : SyncOutcome) (d : Option SyncDetail) (tellEngine : Bool) :
    (State.endAttempt s oc d tellEngine).outer = s.outer := by
  unfold State.endAttempt
  grind [State.outer, syncEnd_outer]

theorem triggerOnce_outer (s : State) (e : SyncEntry) : (State.triggerOnce s e).2.outer = s.outer := by
  unfold State.triggerOnce
  grind [closeRequest_outer, endAttempt_outer, setSync_outer, updAttempt_outer]

theorem grantEntry_outer (s : State) (e : SyncEntry) : (State.grantEntry s e).outer = s.outer := by
  unfold State.grantEntry
  grind [State.outer, endAttempt_outer, raise_outer, tellLedger_outer, triggerOnce_outer, updAttempt_outer]

theorem grantLoop_outer (n : Nat) (s : State) : (State.grantLoop n s).outer = s.outer := by
  induction n generalizing s with
  | zero => rfl
  | succ n ih =>
    unfold State.grantLoop
    (repeat' split) <;> simp only [ih, grantEntry_outer]

theorem regrant_outer (s : State) : (State.regrant s).outer = s.outer := by
  unfold State.regrant
  split <;> simp only [grantLoop_outer]

theorem finishAttempt_outer (s : State) (oc : SyncOutcome) (d : Option SyncDetail) :
    (State.finishAttempt s oc d).outer = s.outer := by
  simp only [State.finishAttempt, endAttempt_outer, regrant_outer]

theorem trigger_outer (s : State) : (State.trigger s).2.outer = s.outer := by
  unfold State.trigger
  (repeat' split) <;> simp only [regrant_outer, triggerOnce_outer]

theorem syncJoin_outer (s : State) (e : SyncEntry) : (State.syncJoin s e).2.outer = s.outer := by
  unfold State.syncJoin
  grind [State.outer, raise_outer, regrant_outer, tellLedger_outer]

theorem dropWait_outer (s : State) (e : SyncEntry) (tellEngine : Bool) : (State.dropWait s e tellEngine).outer = s.outer := by
  unfold State.dropWait
  grind [State.outer, syncEnd_outer]

theorem withdraw_outer (s : State) (p : Pos) (tellEngine : Bool) : (State.withdraw s p tellEngine).outer = s.outer := by
  unfold State.withdraw
  (repeat' split) <;> simp only [dropWait_outer, endAttempt_outer, regrant_outer]

theorem syncHold_outer (s : State) : (State.syncHold s).outer = s.outer := by
  unfold State.syncHold
  grind [dropWait_outer, endAttempt_outer, foldl_outer]

theorem beginPeriod_outer (s : State) (p : Pos) : (State.beginPeriod s p).outer = s.outer := by
  unfold State.beginPeriod
  (repeat' split) <;> simp only [updAttempt_outer]

theorem enterCorrecting_outer (s : State) (p : Pos) : (State.enterCorrecting s p).outer = s.outer := by
  simp only [State.enterCorrecting, beginPeriod_outer, setSync_outer, updAttempt_outer]

theorem enterWindow_outer (s : State) : (State.enterWindow s).outer = s.outer := by
  simp only [State.enterWindow, setSync_outer, updAttempt_outer]

theorem windowConfirmed_outer (s : State) : (State.windowConfirmed s).outer = s.outer := by
  unfold State.windowConfirmed
  (repeat' split) <;> simp only [trigger_outer]

theorem measured_outer (s : State) (e : SyncEntry) (w : Bool) : (State.measured s e w).outer = s.outer := by
  unfold State.measured
  (repeat' split) <;> simp only [enterCorrecting_outer, enterWindow_outer, setSync_outer, updAttempt_outer]

theorem judgeMeasurement_outer (s : State) (e : SyncEntry) (w : Bool) : (State.judgeMeasurement s e w).outer = s.outer := by
  unfold State.judgeMeasurement
  (repeat' split) <;> simp only [enterCorrecting_outer, enterWindow_outer, measured_outer, setSync_outer,
    updAttempt_outer, windowConfirmed_outer]

theorem runningEdge_outer (s : State) (e : SyncEntry) (now : Nat) : (State.runningEdge s e now).outer = s.outer := by
  unfold State.runningEdge
  (repeat' split) <;> simp only [judgeMeasurement_outer, updAttempt_outer]

theorem referenceEdge_outer (s : State) (now : Nat) : (State.referenceEdge s now).outer = s.outer := by
  simp only [State.referenceEdge, updAttempt_outer]

theorem zeroCrossing_outer (s : State) (l : ZLine) (sub : Nat) : (State.zeroCrossing s l sub).outer = s.outer := by
  unfold State.zeroCrossing
  (repeat' split) <;> simp only [referenceEdge_outer, runningEdge_outer]

theorem attemptExpiry_outer (s : State) : (State.attemptExpiry s).outer = s.outer := by
  unfold State.attemptExpiry
  (repeat' split) <;> simp only [finishAttempt_outer]

theorem edgeExpiry_outer (s : State) (side : EdgeSide) : (State.edgeExpiry s side).outer = s.outer := by
  unfold State.edgeExpiry
  (repeat' split) <;> simp only [finishAttempt_outer]

theorem periodExpiry_outer (s : State) : (State.periodExpiry s).outer = s.outer := by
  unfold State.periodExpiry
  (repeat' split) <;> simp only [beginPeriod_outer]

theorem onExpiry_outer (s : State) (o : CorrOut) : (State.onExpiry s o).outer = s.outer := by
  unfold State.onExpiry
  (repeat' split) <;> simp only [updAttempt_outer]

theorem syncOutcome_outer (s : State) (p : Pos) (oc : PulseOutcome) : (State.syncOutcome s p oc).outer = s.outer := by
  unfold State.syncOutcome
  (repeat' split) <;> simp only [finishAttempt_outer]

theorem syncLatch_outer (s : State) (m : MasterIx) (pos : Nat) : (State.syncLatch s m pos).2.outer = s.outer := by
  unfold State.syncLatch
  (repeat' split) <;> simp only [answer_outer, setSync_outer, updAttempt_outer]

theorem syncClose_outer (s : State) (m : MasterIx) (pos : Nat) : (State.syncClose s m pos).2.outer = s.outer := by
  unfold State.syncClose
  (repeat' split) <;> simp only [answer_outer, trigger_outer]

theorem syncCancel_outer (s : State) (m : MasterIx) (pos : Nat) : (State.syncCancel s m pos).2.outer = s.outer := by
  unfold State.syncCancel
  (repeat' split) <;> simp only [answer_outer, withdraw_outer]

theorem setGen_outer (s : State) (g : GenIx) (r : GenRec) : (State.setGen s g r).outer = s.outer := rfl

theorem judgeGen_outer (s : State) (g : GenIx) : (State.judgeGen s g).outer = s.outer := by
  unfold State.judgeGen
  grind [raise_outer, setGen_outer]

theorem keepOpen_outer (s : State) (g : GenIx) : (State.keepOpen s g).outer = s.outer := by
  unfold State.keepOpen
  grind [openRequest_outer, raise_outer, setGen_outer]

theorem lockOut_outer (s : State) (g : GenIx) : (State.lockOut s g).outer = s.outer := by
  unfold State.lockOut
  grind [keepOpen_outer, raise_outer, setGen_outer, withdraw_outer]

theorem checkLockout_outer (s : State) (g : GenIx) : (State.checkLockout s g).outer = s.outer := by
  unfold State.checkLockout
  grind [lockOut_outer]

theorem setFailures_outer (s : State) (g : GenIx) (n : Nat) (ev : Option GenFailure) :
    (State.setFailures s g n ev).outer = s.outer := by
  unfold State.setFailures
  grind [checkLockout_outer, raise_outer, setGen_outer]

theorem charge_outer (s : State) (g : GenIx) (n : Nat) (ev : GenFailure) : (State.charge s g n ev).outer = s.outer := by
  simp only [State.charge, setFailures_outer]

theorem chargeOutcome_outer (s : State) (g : GenIx) (x0 : SyncOutcome) : (State.chargeOutcome s g x0).outer = s.outer := by
  unfold State.chargeOutcome
  (repeat' split) <;> simp only [charge_outer, setFailures_outer]

theorem ledgerSync_outer (s : State) (p : Pos) (oc : Option SyncOutcome) : (State.ledgerSync s p oc).outer = s.outer := by
  unfold State.ledgerSync
  (repeat' split) <;> simp only [chargeOutcome_outer, judgeGen_outer, setGen_outer]

theorem ledgerTrip_outer (s : State) (p : Pos) : (State.ledgerTrip s p).outer = s.outer := by
  unfold State.ledgerTrip
  (repeat' split) <;> simp only [charge_outer]

theorem readmitted_outer (s : State) (g : GenIx) : (State.readmitted s g).outer = s.outer := by
  simp only [State.readmitted, raise_outer, setGen_outer]

theorem readmitComplete_outer (s : State) (g : GenIx) : (State.readmitComplete s g).outer = s.outer := by
  unfold State.readmitComplete
  (repeat' split) <;> simp only [readmitted_outer]

theorem genBoundary_outer (s : State) (g : GenIx) : (State.genBoundary s g).outer = s.outer := by
  unfold State.genBoundary
  grind [judgeGen_outer, keepOpen_outer, readmitComplete_outer, setGen_outer]

theorem unstack_outer (s : State) (p : Pos) : (State.unstack s p).outer = s.outer := by
  simp only [State.unstack, updLed_outer, updPos_outer]

theorem unstackNoted_outer (s : State) (p : Pos) : (State.unstackNoted s p).outer = s.outer := by
  unfold State.unstackNoted
  (repeat' split) <;> simp only [raise_outer, unstack_outer]

theorem unshedFeeder_outer (s : State) (p : Pos) : (State.unshedFeeder s p).outer = s.outer := by
  simp only [State.unshedFeeder, unstackNoted_outer]

theorem ledgerEvent_outer (s : State) (e : LedgerEvent) : (State.ledgerEvent s e).outer = s.outer := by
  simp only [State.ledgerEvent, raise_outer, updLed_outer]

theorem pushShed_outer (s : State) (p : Pos) : (State.pushShed s p).outer = s.outer := by
  simp only [State.pushShed, raise_outer, updLed_outer, updPos_outer]

theorem ledgerOutcome_outer (s : State) (p : Pos) (oc : PulseOutcome) (closing : Bool) :
    (State.ledgerOutcome s p oc closing).outer = s.outer := by
  unfold State.ledgerOutcome
  (repeat' split) <;> simp only [ledgerEvent_outer, pushShed_outer, updLed_outer]

theorem ledgerPos_outer (s : State) (p : Pos) (now : PosState) : (State.ledgerPos s p now).outer = s.outer := by
  unfold State.ledgerPos
  (repeat' split) <;> simp only [judgeGen_outer, keepOpen_outer, unstackNoted_outer, updLed_outer]

theorem shedOpen_outer (s : State) (p : Pos) : (State.shedOpen s p).outer = s.outer := by
  simp only [State.shedOpen, openRequest_outer]

theorem overloadUnresolved_outer (s : State) : (State.overloadUnresolved s).outer = s.outer := by
  unfold State.overloadUnresolved
  (repeat' split) <;> simp only [ledgerEvent_outer, updLed_outer]

theorem shedOverload_outer (s : State) : (State.shedOverload s).outer = s.outer := by
  unfold State.shedOverload
  grind [overloadUnresolved_outer, raise_outer, shedOpen_outer, foldl_outer]

theorem restore_outer (s : State) (p : Pos) : (State.restore s p).outer = s.outer := by
  unfold State.restore
  (repeat' split) <;> simp only [closeRequest_outer, ledgerEvent_outer, unstack_outer, updLed_outer]

theorem restoreUtility_outer (s : State) : (State.restoreUtility s).outer = s.outer := by
  unfold State.restoreUtility
  (repeat' split) <;> simp only [restore_outer]

theorem fitRestore_outer (s : State) : (State.fitRestore s).outer = s.outer := by
  unfold State.fitRestore
  (repeat' split) <;> simp only [restore_outer]

theorem judgeFit_outer (s : State) (h : Int) : (State.judgeFit s h).outer = s.outer := by
  simp only [State.judgeFit, updLed_outer]

theorem endFit_outer (s : State) : (State.endFit s).outer = s.outer := by
  simp only [State.endFit, updLed_outer]

theorem evaluateLoad_outer (s : State) : (State.evaluateLoad s).outer = s.outer := by
  simp only [State.evaluateLoad, endFit_outer, fitRestore_outer, judgeFit_outer, restoreUtility_outer]
  split <;> simp only [shedOverload_outer, updLed_outer]

theorem ledgerRound_outer (s : State) : (State.ledgerRound s).outer = s.outer := by
  unfold State.ledgerRound
  grind [evaluateLoad_outer, genBoundary_outer, updLed_outer, foldl_outer]

theorem spacingExpiry_outer (s : State) : (State.spacingExpiry s).outer = s.outer := by
  unfold State.spacingExpiry
  (repeat' split) <;> simp only [updLed_outer]

theorem ledgerLayer_outer (s : State) : (State.ledgerLayer s).outer = s.outer := by
  simp only [State.ledgerLayer, updLed_outer]

theorem admitGen_outer (s : State) (m : MasterIx) (gen mode : Nat) : (State.admitGen s m gen mode).2.outer = s.outer := by
  unfold State.admitGen
  grind [answer_outer, renew_outer, syncJoin_outer]

theorem withdrawAct_outer (s : State) (m : MasterIx) (p : Pos) : (State.withdrawAct s m p).2.outer = s.outer := by
  unfold State.withdrawAct
  grind [answer_outer, openRequest_outer, renew_outer, withdraw_outer]

theorem withdrawGen_outer (s : State) (m : MasterIx) (gen : Nat) : (State.withdrawGen s m gen).2.outer = s.outer := by
  unfold State.withdrawGen
  (repeat' split) <;> simp only [answer_outer, withdrawAct_outer]

theorem clearLockout_outer (s : State) (m : MasterIx) (gen : Nat) : (State.clearLockout s m gen).2.outer = s.outer := by
  unfold State.clearLockout
  grind [answer_outer, raise_outer, setGen_outer]

theorem setPhase_outer (s : State) (ph : StepPhase) : (State.setPhase s ph).outer = s.outer := by
  simp only [State.setPhase, updEng_outer]

theorem setMarks_outer (s : State) (p : Pos) : (State.setMarks s p).outer = s.outer := by
  simp only [State.setMarks, updEng_outer]

theorem issueOpen_outer (s : State) (p : Pos) : (State.issueOpen s p).2.outer = s.outer := by
  unfold State.issueOpen
  grind [openRequest_outer, setMarks_outer, setPhase_outer]

theorem issueClose_outer (s : State) (p : Pos) : (State.issueClose s p).2.outer = s.outer := by
  unfold State.issueClose
  grind [closeRequest_outer, setPhase_outer]

theorem issueSync_outer (s : State) (p : Pos) : (State.issueSync s p).2.outer = s.outer := by
  unfold State.issueSync
  grind [setPhase_outer, syncJoin_outer]

theorem testIssue_outer (s : State) (p : Pos) (c : Bool) (issue : State → StepResult × State)
    (h : ∀ s, (issue s).2.outer = s.outer) : (s.testIssue p c issue).2.outer = s.outer := by
  unfold State.testIssue
  (repeat' split) <;> first | rfl | (rw [h]; rfl)

theorem testStep_outer (s : State) : (State.testStep s).2.outer = s.outer := by
  unfold State.testStep
  grind [issueClose_outer, issueOpen_outer, issueSync_outer, testIssue_outer]

theorem stopStepTimers_outer (s : State) : (State.stopStepTimers s).outer = s.outer := by
  simp only [State.stopStepTimers, updEng_outer]

theorem judgeWait_outer (s : State) (st : Step) : (State.judgeWait s st).2.outer = s.outer := by
  unfold State.judgeWait
  (repeat' split) <;> simp only [stopStepTimers_outer]

theorem beginWait_outer (s : State) (st : Step) (time : Nat) (poll : Timer) :
    (State.beginWait s st time poll).2.outer = s.outer := by
  simp only [State.beginWait, judgeWait_outer, setPhase_outer, updEng_outer]

theorem noteStep_outer (s : State) : (State.noteStep s).outer = s.outer := by
  unfold State.noteStep
  (repeat' split) <;> simp only [stopStepTimers_outer, updEng_outer]

theorem beginStep_outer (s : State) : (State.beginStep s).2.outer = s.outer := by
  unfold State.beginStep
  grind [beginWait_outer, noteStep_outer, setPhase_outer, testStep_outer, updEng_outer]

theorem advance_outer (s : State) : (State.advance s).outer = s.outer := by
  simp only [State.advance, updEng_outer]

theorem withdrawMaster_outer (s : State) (p : Pos) : (State.withdrawMaster s p).outer = s.outer := by
  unfold State.withdrawMaster
  (repeat' split) <;> simp only [withdraw_outer]

theorem startMade_outer (s : State) (slot : SlotIx) (cause : StartCause) : (State.startMade s slot cause).outer = s.outer := by
  unfold State.startMade
  grind [State.outer, raise_outer, withdrawMaster_outer, foldl_outer]

theorem notStarted_outer (s : State) (c : Scenario) (why : NotStarted) : (State.notStarted s c why).outer = s.outer := by
  simp only [State.notStarted, raise_outer, updEng_outer]

theorem withdrawOwn_outer (s : State) : (State.withdrawOwn s).outer = s.outer := by
  unfold State.withdrawOwn
  (repeat' split) <;> simp only [withdraw_outer]

theorem planEnds_outer (s : State) (oc : PlanOutcome) : (State.planEnds s oc).outer = s.outer := by
  simp only [State.planEnds, engineRelease_outer, raise_outer, updEng_outer, withdrawOwn_outer]

theorem tryStart_outer (s t : State) (slot : SlotIx) (cause : StartCause) (h : s.tryStart slot cause = .ok t) :
    t.outer = s.outer := by
  unfold State.tryStart at h
  grind [startMade_outer, engineStartPermits_outer]

theorem retest_outer (s : State) : (State.retest s).2.outer = s.outer := by
  unfold State.retest
  grind [notStarted_outer, raise_outer, updEng_outer, tryStart_outer]

theorem afterPlan_outer (s : State) : (State.afterPlan s).2.outer = s.outer := by
  unfold State.afterPlan
  grind [beginStep_outer, retest_outer]

theorem follow_outer (s : State) (x0 : StepResult) : (State.follow s x0).2.outer = s.outer := by
  unfold State.follow
  (repeat' split) <;> simp only [advance_outer, afterPlan_outer, beginStep_outer, planEnds_outer]

theorem engLoop_outer (n : Nat) (r : StepResult) (s : State) : (State.engLoop n r s).outer = s.outer := by
  induction n generalizing r s with
  | zero => unfold State.engLoop; rfl
  | succ n ih =>
    unfold State.engLoop
    split
    · rfl
    · rw [ih, follow_outer]

theorem engGo_outer (s : State) (r : StepResult) : (State.engGo s r).outer = s.outer := by
  simp only [State.engGo, engLoop_outer]

theorem engBegin_outer (s : State) : (State.engBegin s).outer = s.outer := by
  simp only [State.engBegin, beginStep_outer, engGo_outer]

theorem abandon_outer (s : State) (why : AbandonReason) : (State.abandon s why).outer = s.outer := by
  unfold State.abandon
  grind [afterPlan_outer, engGo_outer, planEnds_outer]

theorem setPending_outer (s : State) (c : Scenario) : (State.setPending s c).outer = s.outer := by
  simp only [State.setPending, raise_outer, updEng_outer]

theorem takeScenario_outer (s : State) (c : Scenario) (slot : SlotIx) : (State.takeScenario s c slot).outer = s.outer := by
  unfold State.takeScenario
  grind [engBegin_outer, notStarted_outer, setPending_outer, tryStart_outer]

theorem noteTrip_outer (s : State) (t : Pos × TripCause) : (State.noteTrip s t).outer = s.outer := by
  simp only [State.noteTrip, updEng_outer]

theorem endOwnDrive_outer (s : State) (tripped : Pos) : (State.endOwnDrive s tripped).outer = s.outer := by
  unfold State.endOwnDrive
  (repeat' split) <;> simp only [endDrive_outer]

theorem suspend_outer (s : State) (p : Pos) : (State.suspend s p).outer = s.outer := by
  simp only [State.suspend, endOwnDrive_outer, raise_outer, setPhase_outer, updEng_outer, withdrawOwn_outer]

theorem engineTrip_outer (s : State) (p : Pos) (c : TripCause) : (State.engineTrip s p c).outer = s.outer := by
  unfold State.engineTrip
  (repeat' split) <;> simp only [noteTrip_outer, raise_outer, suspend_outer]

theorem engineOutcome_outer (s : State) (p : Pos) (oc : PulseOutcome) : (State.engineOutcome s p oc).outer = s.outer := by
  unfold State.engineOutcome
  (repeat' split) <;> simp only [engGo_outer, setMarks_outer, suspend_outer]

theorem engineSync_outer (s : State) (p : Pos) (oc : SyncOutcome) : (State.engineSync s p oc).outer = s.outer := by
  unfold State.engineSync
  (repeat' split) <;> simp only [engGo_outer]

theorem engineMonitor_outer (s : State) : (State.engineMonitor s).outer = s.outer := by
  unfold State.engineMonitor
  (repeat' split) <;> simp only [engGo_outer, judgeWait_outer]

theorem engineHold_outer (s : State) (c : HoldCause) : (State.engineHold s c).outer = s.outer := by
  unfold State.engineHold
  (repeat' split) <;> simp only [abandon_outer]

theorem pollExpiry_outer (s : State) : (State.pollExpiry s).outer = s.outer := by
  unfold State.pollExpiry
  grind [engGo_outer, judgeWait_outer, testStep_outer, updEng_outer]

theorem stepExpiry_outer (s : State) : (State.stepExpiry s).outer = s.outer := by
  unfold State.stepExpiry
  (repeat' split) <;> simp only [engGo_outer, stopStepTimers_outer]

theorem markExpiry_outer (s : State) (bus : Bus) : (State.markExpiry s bus).outer = s.outer := by
  unfold State.markExpiry
  grind [engGo_outer, testStep_outer, updEng_outer]

theorem planStart_outer (s : State) (m : MasterIx) (slot : Nat) : (State.planStart s m slot).2.outer = s.outer := by
  unfold State.planStart
  grind [answer_outer, engBegin_outer, tryStart_outer]

theorem planResume_outer (s : State) (m : MasterIx) : (State.planResume s m).2.outer = s.outer := by
  unfold State.planResume
  (repeat' split) <;> simp only [answer_outer, engBegin_outer, raise_outer, updEng_outer]

theorem planAbandon_outer (s : State) (m : MasterIx) : (State.planAbandon s m).2.outer = s.outer := by
  unfold State.planAbandon
  (repeat' split) <;> simp only [abandon_outer, answer_outer]

theorem setMonitor_outer (s : State) (m : Source) (r : MonRec) : (State.setMonitor s m r).outer = s.outer := by
  unfold State.setMonitor
  grind [State.outer, raise_outer]

theorem stabilityProved_outer (s : State) (m : Source) : (State.stabilityProved s m).outer = s.outer := by
  unfold State.stabilityProved
  grind [setMonitor_outer]

theorem monitorRound_outer (s : State) (m : Source) : (State.monitorRound s m).outer = s.outer := by
  unfold State.monitorRound
  (repeat' split) <;> simp only [setMonitor_outer, stabilityProved_outer]

theorem lossExpiry_outer (s : State) (m : Source) : (State.lossExpiry s m).outer = s.outer := by
  unfold State.lossExpiry
  (repeat' split) <;> simp only [setMonitor_outer]

theorem monitorFeeds_outer (s : State) (c : FeedChange) : (State.monitorFeeds s c).outer = s.outer := by
  unfold State.monitorFeeds
  (repeat' split) <;> simp only [setMonitor_outer]

theorem handScenario_outer (flags : ScenarioFlags) (s : State) (c : Scenario) :
    (State.handScenario flags s c).outer = s.outer := by
  unfold State.handScenario
  (repeat' split) <;> simp only [takeScenario_outer]

theorem judgeScenarios_outer (s : State) (every : Bool) : (State.judgeScenarios s every).outer = s.outer := by
  unfold State.judgeScenarios
  grind [State.outer, handScenario_outer, foldl_outer]

theorem autoTransfer_outer (s : State) (m : MasterIx) (enable : Nat) : (State.autoTransfer s m enable).2.outer = s.outer := by
  unfold State.autoTransfer
  grind [State.outer, answer_outer, judgeScenarios_outer, raise_outer]

theorem updProt_outer (s : State) (p : Pos) (f : ProtRec → ProtRec) : (State.updProt s p f).outer = s.outer := rfl

theorem recomputeGroups_outer (s : State) : (State.recomputeGroups s).outer = s.outer := by
  unfold State.recomputeGroups
  grind [updProt_outer, foldl_outer]

theorem adoptGroups_outer (s : State) : (State.adoptGroups s).outer = s.outer := by
  unfold State.adoptGroups
  grind [raiseIf_outer, updProt_outer, foldl_outer]

theorem groupForce_outer (s : State) (m : MasterIx) (sec choice : Nat) : (State.groupForce s m sec choice).2.outer = s.outer := by
  unfold State.groupForce
  grind [State.outer, answer_outer, recomputeGroups_outer]

theorem setFreeze_outer (s : State) (p : Pos) : (State.setFreeze s p).outer = s.outer := by
  simp only [State.setFreeze, raiseIf_outer, updProt_outer]

theorem pickupPos_outer (s : State) (p : Pos) : (State.pickupPos s p).outer = s.outer := by
  unfold State.pickupPos
  (repeat' split) <;> simp only [setFreeze_outer, updProt_outer]

theorem setBlock_outer (s : State) (sec : BusSec) (k : SecBlock) : (State.setBlock s sec k).outer = s.outer := by
  unfold State.setBlock
  grind [State.outer, raiseIf_outer]

theorem setBlockInputs_outer (s : State) : (State.setBlockInputs s).outer = s.outer := by
  unfold State.setBlockInputs
  exact foldl_outer (fun s p => s.updProt p fun r => { r with blockInput := s.prot.blockInput p }) (fun _ _ => rfl) _ _

theorem zoneHoldExpiry_outer (s : State) (sec : BusSec) : (State.zoneHoldExpiry s sec).outer = s.outer := by
  unfold State.zoneHoldExpiry
  (repeat' split) <;> simp only [setBlock_outer, setBlockInputs_outer]

theorem updateBlock_outer (s : State) (sec : BusSec) : (State.updateBlock s sec).outer = s.outer := by
  unfold State.updateBlock
  grind [setBlock_outer, zoneHoldExpiry_outer]

theorem zoneBlocks_outer (s : State) : (State.zoneBlocks s).outer = s.outer := by
  simp only [State.zoneBlocks, setBlockInputs_outer, updateBlock_outer]

theorem elementOperate_outer (s : State) (p : Pos) (e : Element) : (State.elementOperate s p e).outer = s.outer := by
  unfold State.elementOperate
  (repeat' split) <;> simp only [tripRequest_outer, updProt_outer]

theorem operatePos_outer (s : State) (p : Pos) : (State.operatePos s p).outer = s.outer := by
  unfold State.operatePos
  grind [advance_outer, elementOperate_outer, updProt_outer, foldl_outer]

theorem readSettings_outer (s : State) (p : Pos) : (State.readSettings s p).outer = s.outer := rfl

theorem judgePickups_outer (s : State) : (State.judgePickups s).outer = s.outer := by
  simp only [State.judgePickups, zoneBlocks_outer, foldl_outer _ pickupPos_outer, foldl_outer _ readSettings_outer,
    adoptGroups_outer]

theorem protectionRound_outer (s : State) : (State.protectionRound s).outer = s.outer := by
  simp only [State.protectionRound, foldl_outer _ operatePos_outer, anyOrder_outer, judgePickups_outer]

theorem channelLost_outer (s : State) (c : Chan) : (State.channelLost s c).outer = s.outer := by
  unfold State.channelLost
  split <;> simp only [updProt_outer, setFreeze_outer]

theorem updInter_outer (s : State) (f : Interlock → Interlock) : (State.updInter s f).outer = s.outer := rfl

theorem layerWrite_outer (s : State) (m : MasterIx) (layer first : Nat) (entries : List (Nat × Nat)) :
    (State.layerWrite s m layer first entries).2.outer = s.outer := by
  unfold State.layerWrite
  (repeat' split) <;> simp only [answer_outer, updInter_outer]

theorem layerCommit_outer (s : State) (m : MasterIx) (layer : Nat) : (State.layerCommit s m layer).2.outer = s.outer := by
  unfold State.layerCommit
  grind [answer_outer, hand_outer, updInter_outer]

theorem layerAbandon_outer (s : State) (m : MasterIx) (layer : Nat) : (State.layerAbandon s m layer).2.outer = s.outer := by
  unfold State.layerAbandon
  (repeat' split) <;> simp only [answer_outer, updInter_outer]

theorem trackJoin_outer (c : FeedChange) (s : State) (j : JoinId) : (State.trackJoin c s j).outer = s.outer := by
  unfold State.trackJoin
  (repeat' split) <;> simp only [updInter_outer]

theorem interlockFeeds_outer (s : State) (c : FeedChange) : (State.interlockFeeds s c).outer = s.outer := by
  unfold State.interlockFeeds
  grind [trackJoin_outer, tripPlain_outer, foldl_outer]

theorem overlapExpiry_outer (s : State) (j : JoinId) : (State.overlapExpiry s j).outer = s.outer := by
  unfold State.overlapExpiry
  grind [tripPlain_outer, updInter_outer, foldl_outer]

theorem updGroup_outer (s : State) (f : Group → Group) : (State.updGroup s f).outer = s.outer := by
  simp only [State.updGroup, updInter_outer]

theorem setGroupResult_outer (s : State) (p : Pos) (r : GroupResult) : (State.setGroupResult s p r).outer = s.outer := by
  simp only [State.setGroupResult, updGroup_outer]

theorem groupComplete_outer (s : State) : (State.groupComplete s).outer = s.outer := by
  unfold State.groupComplete
  (repeat' split) <;> simp only [raiseFor_outer, updGroup_outer]

theorem settleClosing_outer (s : State) : (State.settleClosing s).outer = s.outer := by
  unfold State.settleClosing
  (repeat' split) <;> simp only [groupComplete_outer]

theorem groupCloseOne_outer (s : State) (m : MasterIx) (p : Pos) (extra : Nat) :
    (State.groupCloseOne s m p extra).2.outer = s.outer := by
  unfold State.groupCloseOne
  grind [closeRequest_outer]

theorem groupCloses_outer (m : MasterIx) (es : List GroupEntry) (x : Nat) (s : State) :
    (State.groupCloses m es x s).outer = s.outer := by
  induction es generalizing x s with
  | nil => rfl
  | cons e es ih =>
    unfold State.groupCloses
    split
    · rw [ih, setGroupResult_outer, groupCloseOne_outer]
    · exact ih _ _

theorem groupClosing_outer (s : State) : (State.groupClosing s).outer = s.outer := by
  unfold State.groupClosing
  (repeat' split) <;> simp only [groupCloses_outer, settleClosing_outer, updGroup_outer]

theorem settleOpening_outer (s : State) : (State.settleOpening s).outer = s.outer := by
  unfold State.settleOpening
  (repeat' split) <;> simp only [groupClosing_outer, groupComplete_outer, updGroup_outer]

theorem groupOpenOne_outer (m : MasterIx) (s : State) (e : GroupEntry) : (State.groupOpenOne m s e).outer = s.outer := by
  unfold State.groupOpenOne
  grind [openRequest_outer, setGroupResult_outer]

theorem groupAccept_outer (s : State) (m : MasterIx) (es : List GroupEntry) : (State.groupAccept s m es).outer = s.outer := by
  unfold State.groupAccept
  grind [groupOpenOne_outer, renew_outer, settleOpening_outer, updGroup_outer, foldl_outer]

theorem groupSwitch_outer (s : State) (m : MasterIx) (mask : PosMask) (marked unmarked : Nat) :
    (State.groupSwitch s m mask marked unmarked).2.outer = s.outer := by
  unfold State.groupSwitch
  grind [answer_outer, groupAccept_outer]

theorem groupOutcome_outer (s : State) (p : Pos) (oc : PulseOutcome) : (State.groupOutcome s p oc).outer = s.outer := by
  unfold State.groupOutcome
  (repeat' split) <;> simp only [setGroupResult_outer, settleClosing_outer, settleOpening_outer]

theorem deadExpiry_outer (s : State) : (State.deadExpiry s).outer = s.outer := by
  unfold State.deadExpiry
  (repeat' split) <;> simp only [groupClosing_outer]

theorem groupHold_outer (s : State) : (State.groupHold s).outer = s.outer := by
  unfold State.groupHold
  (repeat' split) <;> simp only [groupComplete_outer, updGroup_outer]

theorem masterOpen_outer (s : State) (m : MasterIx) (pos : Nat) : (State.masterOpen s m pos).2.outer = s.outer := by
  unfold State.masterOpen
  grind [answer_outer, openRequest_outer, renew_outer]

theorem masterClose_outer (s : State) (m : MasterIx) (pos : Nat) : (State.masterClose s m pos).2.outer = s.outer := by
  unfold State.masterClose
  grind [answer_outer, closeRequest_outer, renew_outer]

theorem masterCloseSync_outer (s : State) (m : MasterIx) (pos mode : Nat) :
    (State.masterCloseSync s m pos mode).2.outer = s.outer := by
  unfold State.masterCloseSync
  grind [answer_outer, renew_outer, syncJoin_outer]

theorem clearLocks_outer (s : State) (p : Pos) : (State.clearLocks s p).outer = s.outer := by
  unfold State.clearLocks
  (repeat' split) <;> simp only [askLock_outer, raise_outer, updPos_outer]

theorem resetTrip_outer (s : State) (m : MasterIx) (pos : Nat) : (State.resetTrip s m pos).2.outer = s.outer := by
  unfold State.resetTrip
  (repeat' split) <;> simp only [answer_outer, clearLocks_outer, renew_outer]

theorem masterUnshed_outer (s : State) (m : MasterIx) (pos : Nat) : (State.masterUnshed s m pos).2.outer = s.outer := by
  unfold State.masterUnshed
  (repeat' split) <;> simp only [answer_outer, renew_outer, unshedFeeder_outer]

/-! ### What a command hands on -/

/-- The part of the state that nothing handed on reaches: the base, the measurement port and the queue. -/
def State.fixed (s : State) : Base × Meas × List Instr := (s.base, s.meas, s.pending)

theorem fixed_of_outer {s t : State} (h : t.outer = s.outer) : t.fixed = s.fixed := by
  simp only [State.outer, Prod.mk.injEq] at h
  simp only [State.fixed, h]

theorem enterHold_fixed (s : State) (c : HoldCause) : (s.enterHold c).fixed = s.fixed := by
  unfold State.enterHold
  (repeat' split) <;> rfl

theorem breakerFailed_fixed (s : State) (p : Pos) (a : ActiveTrip) : (s.breakerFailed p a).fixed = s.fixed := by
  have h := fixed_of_outer ((backupTrips_outer ((s.setBf p).setActive p none) (((s.setBf p).setActive p none).backupSet p) a.record).trans
    ((setActive_outer _ p none).trans (setBf_outer s p)))
  unfold State.breakerFailed
  dsimp only
  split
  · rw [fixed_of_outer (raise_outer _ _), fixed_of_outer (completeRecord_outer _ _ _), enterHold_fixed,
      fixed_of_outer (pulseUpstream_outer _ _), fixed_of_outer (pulseUpstream_outer _ _), h]
  · split
    · rw [fixed_of_outer (raise_outer _ _), fixed_of_outer (completeRecord_outer _ _ _), fixed_of_outer (pulseUpstream_outer _ _), h]
    · rw [fixed_of_outer (raise_outer _ _), fixed_of_outer (completeRecord_outer _ _ _), h]

theorem bfExpiry_fixed (s : State) (p : Pos) : (s.bfExpiry p).fixed = s.fixed := by
  have h := fixed_of_outer (endTripDrive_outer s p)
  unfold State.bfExpiry
  dsimp only
  split
  · rfl
  · split
    · split
      · rw [fixed_of_outer (takeFitting_outer _ _), fixed_of_outer (tripCleared_outer _ _), h]
      · rw [fixed_of_outer (takeFitting_outer _ _), breakerFailed_fixed, h]
    · rfl

theorem doStop_fixed (s : State) : s.doStop.fixed = s.fixed := by
  unfold State.doStop
  rw [enterHold_fixed, fixed_of_outer (foldl_outer State.stopOne stopOne_outer _ _), fixed_of_outer (anyOrder_outer _ _)]

theorem settleComplete_fixed (s : State) : s.settleComplete.fixed = s.fixed := by
  unfold State.settleComplete
  split <;> rfl

theorem settleRound_fixed (s : State) : s.settleRound.fixed = s.fixed := by
  unfold State.settleRound
  split
  · rfl
  · rw [settleComplete_fixed]
    rfl

theorem handle_fixed (s : State) : ∀ w : Handed, (s.handle w).fixed = s.fixed
  | .roundProtection => fixed_of_outer (protectionRound_outer s)
  | .roundMonitor m => fixed_of_outer (monitorRound_outer s m)
  | .roundLedger => fixed_of_outer (ledgerRound_outer s)
  | .roundSettle => settleRound_fixed s
  | .roundStaged => rfl
  | .lostProtection c => fixed_of_outer (channelLost_outer s c)
  | .lostMonitor m => fixed_of_outer (monitorRound_outer s m)
  | .feedProtection _ => fixed_of_outer (recomputeGroups_outer s)
  | .feedInterlock c => fixed_of_outer (interlockFeeds_outer s c)
  | .feedMonitors c => fixed_of_outer (monitorFeeds_outer s c)
  | .feedScenarios _ => fixed_of_outer (judgeScenarios_outer s false)
  | .feedLedger _ => rfl
  | .posLedger p x => fixed_of_outer (ledgerPos_outer s p x)
  | .posRouter p was => fixed_of_outer (stopPendingChange_outer s p was)
  | .outcomeGroup p oc => fixed_of_outer (groupOutcome_outer s p oc)
  | .outcomeEngine p oc => fixed_of_outer (engineOutcome_outer s p oc)
  | .outcomeSync p oc => fixed_of_outer (syncOutcome_outer s p oc)
  | .outcomeLedger p oc x => fixed_of_outer (ledgerOutcome_outer s p oc x)
  | .tripEngine p c => fixed_of_outer (engineTrip_outer s p c)
  | .tripLedger p => fixed_of_outer (ledgerTrip_outer s p)
  | .holdAuthority c => fixed_of_outer (authorityHold_outer s c)
  | .holdGroup => fixed_of_outer (groupHold_outer s)
  | .holdEngine c => fixed_of_outer (engineHold_outer s c)
  | .holdSync => fixed_of_outer (syncHold_outer s)
  | .syncEngine p oc => fixed_of_outer (engineSync_outer s p oc)
  | .syncLedger p oc => fixed_of_outer (ledgerSync_outer s p oc)
  | .monitorEngine => fixed_of_outer (engineMonitor_outer s)
  | .monitorScenarios => fixed_of_outer (judgeScenarios_outer s false)
  | .layerLedger => fixed_of_outer (ledgerLayer_outer s)
  | .runScenarios => fixed_of_outer (judgeScenarios_outer s true)

theorem takeNext_outer {s t : State} {w : Handed} (h : s.takeNext = some (w, t)) : t.outer = s.outer := by
  have hc := choose_outer s (nextPlaces s.inbox).length
  unfold State.takeNext at h
  dsimp only at h
  cases hp : (nextPlaces s.inbox)[(s.choose (nextPlaces s.inbox).length).1]? with
  | none => simp [hp] at h
  | some i =>
    cases hi : s.inbox[i]? with
    | none => simp [hp, hi] at h
    | some x =>
      simp only [hp, hi, Option.bind_some, Option.map_some, Option.some.injEq, Prod.mk.injEq] at h
      rw [← h.2]
      exact hc

theorem drain_fixed (n : Nat) (s : State) : (State.drain n s).fixed = s.fixed := by
  induction n generalizing s with
  | zero => rfl
  | succ n ih =>
    unfold State.drain
    split
    · rfl
    · rename_i w t h
      rw [ih, fixed_of_outer (settleLock_outer _), handle_fixed, fixed_of_outer (takeNext_outer h)]

/-- The end of a command leaves the base, the measurement port and the queue as they are. -/
theorem finish_fixed (s : State) : s.finish.fixed = s.fixed := by
  unfold State.finish
  rw [drain_fixed, fixed_of_outer (settleLock_outer _)]

theorem finish_base (s : State) : s.finish.base = s.base := congrArg Prod.fst (finish_fixed s)

theorem finish_meas (s : State) : s.finish.meas = s.meas := congrArg (fun x => x.2.1) (finish_fixed s)

theorem finish_pending (s : State) : s.finish.pending = s.pending := congrArg (fun x => x.2.2) (finish_fixed s)

/-- Nothing is taken from an empty list of things handed on. -/
theorem takeNext_none {s : State} (h : s.inbox = []) : s.takeNext = none := by
  simp [State.takeNext, h, nextPlaces, headsFrom]

/-- Draining a state with nothing handed on leaves it as it is. -/
theorem drain_of_empty (n : Nat) {s : State} (h : s.inbox = []) : State.drain n s = s := by
  cases n with
  | zero => rfl
  | succ n => simp [State.drain, takeNext_none h]

end Sys2Proof.Machine
end

