-- ==== Sys2Proof/Laws/State.lean ====
section
/-! SUPPORT. What each named update of the state leaves in each field, one lemma for each field, so that no proof unfolds a record update;
and what a noted port leaves of the questions a request asks of the state. -/

namespace Sys2Proof.Machine

/-! ### `updPos` -/

@[simp] theorem updPos_base (s : State) (p : Pos) (f : PosRec → PosRec) : (s.updPos p f).base = s.base := rfl
@[simp] theorem updPos_set (s : State) (p : Pos) (f : PosRec → PosRec) : (s.updPos p f).set = s.set := rfl
@[simp] theorem updPos_staged (s : State) (p : Pos) (f : PosRec → PosRec) : (s.updPos p f).staged = s.staged := rfl
@[simp] theorem updPos_modes (s : State) (p : Pos) (f : PosRec → PosRec) : (s.updPos p f).modes = s.modes := rfl
@[simp] theorem updPos_pos (s : State) (p : Pos) (f : PosRec → PosRec) : (s.updPos p f).pos = s.pos.set p (f s.pos[p]) := rfl
@[simp] theorem updPos_feeds (s : State) (p : Pos) (f : PosRec → PosRec) : (s.updPos p f).feeds = s.feeds := rfl
@[simp] theorem updPos_meas (s : State) (p : Pos) (f : PosRec → PosRec) : (s.updPos p f).meas = s.meas := rfl
@[simp] theorem updPos_auth (s : State) (p : Pos) (f : PosRec → PosRec) : (s.updPos p f).auth = s.auth := rfl
@[simp] theorem updPos_inter (s : State) (p : Pos) (f : PosRec → PosRec) : (s.updPos p f).inter = s.inter := rfl
@[simp] theorem updPos_prot (s : State) (p : Pos) (f : PosRec → PosRec) : (s.updPos p f).prot = s.prot := rfl
@[simp] theorem updPos_router (s : State) (p : Pos) (f : PosRec → PosRec) : (s.updPos p f).router = s.router := rfl
@[simp] theorem updPos_src (s : State) (p : Pos) (f : PosRec → PosRec) : (s.updPos p f).src = s.src := rfl
@[simp] theorem updPos_eng (s : State) (p : Pos) (f : PosRec → PosRec) : (s.updPos p f).eng = s.eng := rfl
@[simp] theorem updPos_sync (s : State) (p : Pos) (f : PosRec → PosRec) : (s.updPos p f).sync = s.sync := rfl
@[simp] theorem updPos_led (s : State) (p : Pos) (f : PosRec → PosRec) : (s.updPos p f).led = s.led := rfl
@[simp] theorem updPos_link (s : State) (p : Pos) (f : PosRec → PosRec) : (s.updPos p f).link = s.link := rfl
@[simp] theorem updPos_lockAsk (s : State) (p : Pos) (f : PosRec → PosRec) : (s.updPos p f).lockAsk = s.lockAsk := rfl
@[simp] theorem updPos_choices (s : State) (p : Pos) (f : PosRec → PosRec) : (s.updPos p f).choices = s.choices := rfl
@[simp] theorem updPos_choiceCount (s : State) (p : Pos) (f : PosRec → PosRec) : (s.updPos p f).choiceCount = s.choiceCount := rfl
@[simp] theorem updPos_inbox (s : State) (p : Pos) (f : PosRec → PosRec) : (s.updPos p f).inbox = s.inbox := rfl
@[simp] theorem updPos_pending (s : State) (p : Pos) (f : PosRec → PosRec) : (s.updPos p f).pending = s.pending := rfl

/-! ### `hand` -/

@[simp] theorem hand_base (s : State) (w : Handed) : (s.hand w).base = s.base := rfl
@[simp] theorem hand_set (s : State) (w : Handed) : (s.hand w).set = s.set := rfl
@[simp] theorem hand_staged (s : State) (w : Handed) : (s.hand w).staged = s.staged := rfl
@[simp] theorem hand_modes (s : State) (w : Handed) : (s.hand w).modes = s.modes := rfl
@[simp] theorem hand_pos (s : State) (w : Handed) : (s.hand w).pos = s.pos := rfl
@[simp] theorem hand_feeds (s : State) (w : Handed) : (s.hand w).feeds = s.feeds := rfl
@[simp] theorem hand_meas (s : State) (w : Handed) : (s.hand w).meas = s.meas := rfl
@[simp] theorem hand_auth (s : State) (w : Handed) : (s.hand w).auth = s.auth := rfl
@[simp] theorem hand_inter (s : State) (w : Handed) : (s.hand w).inter = s.inter := rfl
@[simp] theorem hand_prot (s : State) (w : Handed) : (s.hand w).prot = s.prot := rfl
@[simp] theorem hand_router (s : State) (w : Handed) : (s.hand w).router = s.router := rfl
@[simp] theorem hand_src (s : State) (w : Handed) : (s.hand w).src = s.src := rfl
@[simp] theorem hand_eng (s : State) (w : Handed) : (s.hand w).eng = s.eng := rfl
@[simp] theorem hand_sync (s : State) (w : Handed) : (s.hand w).sync = s.sync := rfl
@[simp] theorem hand_led (s : State) (w : Handed) : (s.hand w).led = s.led := rfl
@[simp] theorem hand_link (s : State) (w : Handed) : (s.hand w).link = s.link := rfl
@[simp] theorem hand_lockAsk (s : State) (w : Handed) : (s.hand w).lockAsk = s.lockAsk := rfl
@[simp] theorem hand_choices (s : State) (w : Handed) : (s.hand w).choices = s.choices := rfl
@[simp] theorem hand_choiceCount (s : State) (w : Handed) : (s.hand w).choiceCount = s.choiceCount := rfl
@[simp] theorem hand_inbox (s : State) (w : Handed) : (s.hand w).inbox = s.inbox ++ [w] := rfl
@[simp] theorem hand_pending (s : State) (w : Handed) : (s.hand w).pending = s.pending := rfl

/-! ### `raise` -/

@[simp] theorem raise_base (s : State) (c : NoticeClass) : (s.raise c).base = s.base := rfl
@[simp] theorem raise_set (s : State) (c : NoticeClass) : (s.raise c).set = s.set := rfl
@[simp] theorem raise_staged (s : State) (c : NoticeClass) : (s.raise c).staged = s.staged := rfl
@[simp] theorem raise_modes (s : State) (c : NoticeClass) : (s.raise c).modes = s.modes := rfl
@[simp] theorem raise_pos (s : State) (c : NoticeClass) : (s.raise c).pos = s.pos := rfl
@[simp] theorem raise_feeds (s : State) (c : NoticeClass) : (s.raise c).feeds = s.feeds := rfl
@[simp] theorem raise_meas (s : State) (c : NoticeClass) : (s.raise c).meas = s.meas := rfl
@[simp] theorem raise_auth (s : State) (c : NoticeClass) : (s.raise c).auth = s.auth := rfl
@[simp] theorem raise_inter (s : State) (c : NoticeClass) : (s.raise c).inter = s.inter := rfl
@[simp] theorem raise_prot (s : State) (c : NoticeClass) : (s.raise c).prot = s.prot := rfl
@[simp] theorem raise_router (s : State) (c : NoticeClass) : (s.raise c).router = s.router := rfl
@[simp] theorem raise_src (s : State) (c : NoticeClass) : (s.raise c).src = s.src := rfl
@[simp] theorem raise_eng (s : State) (c : NoticeClass) : (s.raise c).eng = s.eng := rfl
@[simp] theorem raise_sync (s : State) (c : NoticeClass) : (s.raise c).sync = s.sync := rfl
@[simp] theorem raise_led (s : State) (c : NoticeClass) : (s.raise c).led = s.led := rfl
@[simp] theorem raise_link (s : State) (c : NoticeClass) :
    (s.raise c).link = allMasters.foldl (Link.raiseOne s.set.masters c) s.link := rfl
@[simp] theorem raise_lockAsk (s : State) (c : NoticeClass) : (s.raise c).lockAsk = s.lockAsk := rfl
@[simp] theorem raise_choices (s : State) (c : NoticeClass) : (s.raise c).choices = s.choices := rfl
@[simp] theorem raise_choiceCount (s : State) (c : NoticeClass) : (s.raise c).choiceCount = s.choiceCount := rfl
@[simp] theorem raise_inbox (s : State) (c : NoticeClass) : (s.raise c).inbox = s.inbox := rfl
@[simp] theorem raise_pending (s : State) (c : NoticeClass) : (s.raise c).pending = s.pending := rfl

/-! ### `raiseFor` -/

@[simp] theorem raiseFor_base (s : State) (m : MasterIx) (c : NoticeClass) : (s.raiseFor m c).base = s.base := rfl
@[simp] theorem raiseFor_set (s : State) (m : MasterIx) (c : NoticeClass) : (s.raiseFor m c).set = s.set := rfl
@[simp] theorem raiseFor_staged (s : State) (m : MasterIx) (c : NoticeClass) : (s.raiseFor m c).staged = s.staged := rfl
@[simp] theorem raiseFor_modes (s : State) (m : MasterIx) (c : NoticeClass) : (s.raiseFor m c).modes = s.modes := rfl
@[simp] theorem raiseFor_pos (s : State) (m : MasterIx) (c : NoticeClass) : (s.raiseFor m c).pos = s.pos := rfl
@[simp] theorem raiseFor_feeds (s : State) (m : MasterIx) (c : NoticeClass) : (s.raiseFor m c).feeds = s.feeds := rfl
@[simp] theorem raiseFor_meas (s : State) (m : MasterIx) (c : NoticeClass) : (s.raiseFor m c).meas = s.meas := rfl
@[simp] theorem raiseFor_auth (s : State) (m : MasterIx) (c : NoticeClass) : (s.raiseFor m c).auth = s.auth := rfl
@[simp] theorem raiseFor_inter (s : State) (m : MasterIx) (c : NoticeClass) : (s.raiseFor m c).inter = s.inter := rfl
@[simp] theorem raiseFor_prot (s : State) (m : MasterIx) (c : NoticeClass) : (s.raiseFor m c).prot = s.prot := rfl
@[simp] theorem raiseFor_router (s : State) (m : MasterIx) (c : NoticeClass) : (s.raiseFor m c).router = s.router := rfl
@[simp] theorem raiseFor_src (s : State) (m : MasterIx) (c : NoticeClass) : (s.raiseFor m c).src = s.src := rfl
@[simp] theorem raiseFor_eng (s : State) (m : MasterIx) (c : NoticeClass) : (s.raiseFor m c).eng = s.eng := rfl
@[simp] theorem raiseFor_sync (s : State) (m : MasterIx) (c : NoticeClass) : (s.raiseFor m c).sync = s.sync := rfl
@[simp] theorem raiseFor_led (s : State) (m : MasterIx) (c : NoticeClass) : (s.raiseFor m c).led = s.led := rfl
@[simp] theorem raiseFor_link (s : State) (m : MasterIx) (c : NoticeClass) :
    (s.raiseFor m c).link = Link.raiseOne s.set.masters c s.link m := rfl
@[simp] theorem raiseFor_lockAsk (s : State) (m : MasterIx) (c : NoticeClass) : (s.raiseFor m c).lockAsk = s.lockAsk := rfl
@[simp] theorem raiseFor_choices (s : State) (m : MasterIx) (c : NoticeClass) : (s.raiseFor m c).choices = s.choices := rfl
@[simp] theorem raiseFor_choiceCount (s : State) (m : MasterIx) (c : NoticeClass) : (s.raiseFor m c).choiceCount = s.choiceCount := rfl
@[simp] theorem raiseFor_inbox (s : State) (m : MasterIx) (c : NoticeClass) : (s.raiseFor m c).inbox = s.inbox := rfl
@[simp] theorem raiseFor_pending (s : State) (m : MasterIx) (c : NoticeClass) : (s.raiseFor m c).pending = s.pending := rfl

/-! ### `setActive` -/

@[simp] theorem setActive_base (s : State) (p : Pos) (a : Option ActiveTrip) : (s.setActive p a).base = s.base := rfl
@[simp] theorem setActive_set (s : State) (p : Pos) (a : Option ActiveTrip) : (s.setActive p a).set = s.set := rfl
@[simp] theorem setActive_staged (s : State) (p : Pos) (a : Option ActiveTrip) : (s.setActive p a).staged = s.staged := rfl
@[simp] theorem setActive_modes (s : State) (p : Pos) (a : Option ActiveTrip) : (s.setActive p a).modes = s.modes := rfl
@[simp] theorem setActive_pos (s : State) (p : Pos) (a : Option ActiveTrip) : (s.setActive p a).pos = s.pos := rfl
@[simp] theorem setActive_feeds (s : State) (p : Pos) (a : Option ActiveTrip) : (s.setActive p a).feeds = s.feeds := rfl
@[simp] theorem setActive_meas (s : State) (p : Pos) (a : Option ActiveTrip) : (s.setActive p a).meas = s.meas := rfl
@[simp] theorem setActive_auth (s : State) (p : Pos) (a : Option ActiveTrip) : (s.setActive p a).auth = s.auth := rfl
@[simp] theorem setActive_inter (s : State) (p : Pos) (a : Option ActiveTrip) : (s.setActive p a).inter = s.inter := rfl
@[simp] theorem setActive_prot (s : State) (p : Pos) (a : Option ActiveTrip) : (s.setActive p a).prot = s.prot := rfl
@[simp] theorem setActive_router (s : State) (p : Pos) (a : Option ActiveTrip) :
    (s.setActive p a).router = { s.router with active := s.router.active.set p a } := rfl
@[simp] theorem setActive_src (s : State) (p : Pos) (a : Option ActiveTrip) : (s.setActive p a).src = s.src := rfl
@[simp] theorem setActive_eng (s : State) (p : Pos) (a : Option ActiveTrip) : (s.setActive p a).eng = s.eng := rfl
@[simp] theorem setActive_sync (s : State) (p : Pos) (a : Option ActiveTrip) : (s.setActive p a).sync = s.sync := rfl
@[simp] theorem setActive_led (s : State) (p : Pos) (a : Option ActiveTrip) : (s.setActive p a).led = s.led := rfl
@[simp] theorem setActive_link (s : State) (p : Pos) (a : Option ActiveTrip) : (s.setActive p a).link = s.link := rfl
@[simp] theorem setActive_lockAsk (s : State) (p : Pos) (a : Option ActiveTrip) : (s.setActive p a).lockAsk = s.lockAsk := rfl
@[simp] theorem setActive_choices (s : State) (p : Pos) (a : Option ActiveTrip) : (s.setActive p a).choices = s.choices := rfl
@[simp] theorem setActive_choiceCount (s : State) (p : Pos) (a : Option ActiveTrip) : (s.setActive p a).choiceCount = s.choiceCount := rfl
@[simp] theorem setActive_inbox (s : State) (p : Pos) (a : Option ActiveTrip) : (s.setActive p a).inbox = s.inbox := rfl
@[simp] theorem setActive_pending (s : State) (p : Pos) (a : Option ActiveTrip) : (s.setActive p a).pending = s.pending := rfl

/-! ### `askLock` -/

@[simp] theorem askLock_base (s : State) : (s.askLock).base = s.base := rfl
@[simp] theorem askLock_set (s : State) : (s.askLock).set = s.set := rfl
@[simp] theorem askLock_staged (s : State) : (s.askLock).staged = s.staged := rfl
@[simp] theorem askLock_modes (s : State) : (s.askLock).modes = s.modes := rfl
@[simp] theorem askLock_pos (s : State) : (s.askLock).pos = s.pos := rfl
@[simp] theorem askLock_feeds (s : State) : (s.askLock).feeds = s.feeds := rfl
@[simp] theorem askLock_meas (s : State) : (s.askLock).meas = s.meas := rfl
@[simp] theorem askLock_auth (s : State) : (s.askLock).auth = s.auth := rfl
@[simp] theorem askLock_inter (s : State) : (s.askLock).inter = s.inter := rfl
@[simp] theorem askLock_prot (s : State) : (s.askLock).prot = s.prot := rfl
@[simp] theorem askLock_router (s : State) : (s.askLock).router = s.router := rfl
@[simp] theorem askLock_src (s : State) : (s.askLock).src = s.src := rfl
@[simp] theorem askLock_eng (s : State) : (s.askLock).eng = s.eng := rfl
@[simp] theorem askLock_sync (s : State) : (s.askLock).sync = s.sync := rfl
@[simp] theorem askLock_led (s : State) : (s.askLock).led = s.led := rfl
@[simp] theorem askLock_link (s : State) : (s.askLock).link = s.link := rfl
@[simp] theorem askLock_lockAsk (s : State) : (s.askLock).lockAsk = true := rfl
@[simp] theorem askLock_choices (s : State) : (s.askLock).choices = s.choices := rfl
@[simp] theorem askLock_choiceCount (s : State) : (s.askLock).choiceCount = s.choiceCount := rfl
@[simp] theorem askLock_inbox (s : State) : (s.askLock).inbox = s.inbox := rfl
@[simp] theorem askLock_pending (s : State) : (s.askLock).pending = s.pending := rfl

/-! ### `setPermit` -/

@[simp] theorem setPermit_base (s : State) (p : Pos) (v : Option Permit) : (s.setPermit p v).base = s.base := rfl
@[simp] theorem setPermit_set (s : State) (p : Pos) (v : Option Permit) : (s.setPermit p v).set = s.set := rfl
@[simp] theorem setPermit_staged (s : State) (p : Pos) (v : Option Permit) : (s.setPermit p v).staged = s.staged := rfl
@[simp] theorem setPermit_modes (s : State) (p : Pos) (v : Option Permit) : (s.setPermit p v).modes = s.modes := rfl
@[simp] theorem setPermit_pos (s : State) (p : Pos) (v : Option Permit) : (s.setPermit p v).pos = s.pos := rfl
@[simp] theorem setPermit_feeds (s : State) (p : Pos) (v : Option Permit) : (s.setPermit p v).feeds = s.feeds := rfl
@[simp] theorem setPermit_meas (s : State) (p : Pos) (v : Option Permit) : (s.setPermit p v).meas = s.meas := rfl
@[simp] theorem setPermit_auth (s : State) (p : Pos) (v : Option Permit) :
    (s.setPermit p v).auth = { s.auth with permits := s.auth.permits.set p v } := rfl
@[simp] theorem setPermit_inter (s : State) (p : Pos) (v : Option Permit) : (s.setPermit p v).inter = s.inter := rfl
@[simp] theorem setPermit_prot (s : State) (p : Pos) (v : Option Permit) : (s.setPermit p v).prot = s.prot := rfl
@[simp] theorem setPermit_router (s : State) (p : Pos) (v : Option Permit) : (s.setPermit p v).router = s.router := rfl
@[simp] theorem setPermit_src (s : State) (p : Pos) (v : Option Permit) : (s.setPermit p v).src = s.src := rfl
@[simp] theorem setPermit_eng (s : State) (p : Pos) (v : Option Permit) : (s.setPermit p v).eng = s.eng := rfl
@[simp] theorem setPermit_sync (s : State) (p : Pos) (v : Option Permit) : (s.setPermit p v).sync = s.sync := rfl
@[simp] theorem setPermit_led (s : State) (p : Pos) (v : Option Permit) : (s.setPermit p v).led = s.led := rfl
@[simp] theorem setPermit_link (s : State) (p : Pos) (v : Option Permit) : (s.setPermit p v).link = s.link := rfl
@[simp] theorem setPermit_lockAsk (s : State) (p : Pos) (v : Option Permit) : (s.setPermit p v).lockAsk = s.lockAsk := rfl
@[simp] theorem setPermit_choices (s : State) (p : Pos) (v : Option Permit) : (s.setPermit p v).choices = s.choices := rfl
@[simp] theorem setPermit_choiceCount (s : State) (p : Pos) (v : Option Permit) : (s.setPermit p v).choiceCount = s.choiceCount := rfl
@[simp] theorem setPermit_inbox (s : State) (p : Pos) (v : Option Permit) : (s.setPermit p v).inbox = s.inbox := rfl
@[simp] theorem setPermit_pending (s : State) (p : Pos) (v : Option Permit) : (s.setPermit p v).pending = s.pending := rfl

/-! ### `updMeas` -/

@[simp] theorem updMeas_base (s : State) (f : Meas → Meas) : (s.updMeas f).base = s.base := rfl
@[simp] theorem updMeas_set (s : State) (f : Meas → Meas) : (s.updMeas f).set = s.set := rfl
@[simp] theorem updMeas_staged (s : State) (f : Meas → Meas) : (s.updMeas f).staged = s.staged := rfl
@[simp] theorem updMeas_modes (s : State) (f : Meas → Meas) : (s.updMeas f).modes = s.modes := rfl
@[simp] theorem updMeas_pos (s : State) (f : Meas → Meas) : (s.updMeas f).pos = s.pos := rfl
@[simp] theorem updMeas_feeds (s : State) (f : Meas → Meas) : (s.updMeas f).feeds = s.feeds := rfl
@[simp] theorem updMeas_meas (s : State) (f : Meas → Meas) : (s.updMeas f).meas = f s.meas := rfl
@[simp] theorem updMeas_auth (s : State) (f : Meas → Meas) : (s.updMeas f).auth = s.auth := rfl
@[simp] theorem updMeas_inter (s : State) (f : Meas → Meas) : (s.updMeas f).inter = s.inter := rfl
@[simp] theorem updMeas_prot (s : State) (f : Meas → Meas) : (s.updMeas f).prot = s.prot := rfl
@[simp] theorem updMeas_router (s : State) (f : Meas → Meas) : (s.updMeas f).router = s.router := rfl
@[simp] theorem updMeas_src (s : State) (f : Meas → Meas) : (s.updMeas f).src = s.src := rfl
@[simp] theorem updMeas_eng (s : State) (f : Meas → Meas) : (s.updMeas f).eng = s.eng := rfl
@[simp] theorem updMeas_sync (s : State) (f : Meas → Meas) : (s.updMeas f).sync = s.sync := rfl
@[simp] theorem updMeas_led (s : State) (f : Meas → Meas) : (s.updMeas f).led = s.led := rfl
@[simp] theorem updMeas_link (s : State) (f : Meas → Meas) : (s.updMeas f).link = s.link := rfl
@[simp] theorem updMeas_lockAsk (s : State) (f : Meas → Meas) : (s.updMeas f).lockAsk = s.lockAsk := rfl
@[simp] theorem updMeas_choices (s : State) (f : Meas → Meas) : (s.updMeas f).choices = s.choices := rfl
@[simp] theorem updMeas_choiceCount (s : State) (f : Meas → Meas) : (s.updMeas f).choiceCount = s.choiceCount := rfl
@[simp] theorem updMeas_inbox (s : State) (f : Meas → Meas) : (s.updMeas f).inbox = s.inbox := rfl
@[simp] theorem updMeas_pending (s : State) (f : Meas → Meas) : (s.updMeas f).pending = s.pending := rfl

/-! ### `updProt` -/

@[simp] theorem updProt_base (s : State) (p : Pos) (f : ProtRec → ProtRec) : (s.updProt p f).base = s.base := rfl
@[simp] theorem updProt_set (s : State) (p : Pos) (f : ProtRec → ProtRec) : (s.updProt p f).set = s.set := rfl
@[simp] theorem updProt_staged (s : State) (p : Pos) (f : ProtRec → ProtRec) : (s.updProt p f).staged = s.staged := rfl
@[simp] theorem updProt_modes (s : State) (p : Pos) (f : ProtRec → ProtRec) : (s.updProt p f).modes = s.modes := rfl
@[simp] theorem updProt_pos (s : State) (p : Pos) (f : ProtRec → ProtRec) : (s.updProt p f).pos = s.pos := rfl
@[simp] theorem updProt_feeds (s : State) (p : Pos) (f : ProtRec → ProtRec) : (s.updProt p f).feeds = s.feeds := rfl
@[simp] theorem updProt_meas (s : State) (p : Pos) (f : ProtRec → ProtRec) : (s.updProt p f).meas = s.meas := rfl
@[simp] theorem updProt_auth (s : State) (p : Pos) (f : ProtRec → ProtRec) : (s.updProt p f).auth = s.auth := rfl
@[simp] theorem updProt_inter (s : State) (p : Pos) (f : ProtRec → ProtRec) : (s.updProt p f).inter = s.inter := rfl
@[simp] theorem updProt_prot (s : State) (p : Pos) (f : ProtRec → ProtRec) :
    (s.updProt p f).prot = { s.prot with recs := s.prot.recs.set p (f s.prot.recs[p]) } := rfl
@[simp] theorem updProt_router (s : State) (p : Pos) (f : ProtRec → ProtRec) : (s.updProt p f).router = s.router := rfl
@[simp] theorem updProt_src (s : State) (p : Pos) (f : ProtRec → ProtRec) : (s.updProt p f).src = s.src := rfl
@[simp] theorem updProt_eng (s : State) (p : Pos) (f : ProtRec → ProtRec) : (s.updProt p f).eng = s.eng := rfl
@[simp] theorem updProt_sync (s : State) (p : Pos) (f : ProtRec → ProtRec) : (s.updProt p f).sync = s.sync := rfl
@[simp] theorem updProt_led (s : State) (p : Pos) (f : ProtRec → ProtRec) : (s.updProt p f).led = s.led := rfl
@[simp] theorem updProt_link (s : State) (p : Pos) (f : ProtRec → ProtRec) : (s.updProt p f).link = s.link := rfl
@[simp] theorem updProt_lockAsk (s : State) (p : Pos) (f : ProtRec → ProtRec) : (s.updProt p f).lockAsk = s.lockAsk := rfl
@[simp] theorem updProt_choices (s : State) (p : Pos) (f : ProtRec → ProtRec) : (s.updProt p f).choices = s.choices := rfl
@[simp] theorem updProt_choiceCount (s : State) (p : Pos) (f : ProtRec → ProtRec) : (s.updProt p f).choiceCount = s.choiceCount := rfl
@[simp] theorem updProt_inbox (s : State) (p : Pos) (f : ProtRec → ProtRec) : (s.updProt p f).inbox = s.inbox := rfl
@[simp] theorem updProt_pending (s : State) (p : Pos) (f : ProtRec → ProtRec) : (s.updProt p f).pending = s.pending := rfl

/-! ### `updInter` -/

@[simp] theorem updInter_base (s : State) (f : Interlock → Interlock) : (s.updInter f).base = s.base := rfl
@[simp] theorem updInter_set (s : State) (f : Interlock → Interlock) : (s.updInter f).set = s.set := rfl
@[simp] theorem updInter_staged (s : State) (f : Interlock → Interlock) : (s.updInter f).staged = s.staged := rfl
@[simp] theorem updInter_modes (s : State) (f : Interlock → Interlock) : (s.updInter f).modes = s.modes := rfl
@[simp] theorem updInter_pos (s : State) (f : Interlock → Interlock) : (s.updInter f).pos = s.pos := rfl
@[simp] theorem updInter_feeds (s : State) (f : Interlock → Interlock) : (s.updInter f).feeds = s.feeds := rfl
@[simp] theorem updInter_meas (s : State) (f : Interlock → Interlock) : (s.updInter f).meas = s.meas := rfl
@[simp] theorem updInter_auth (s : State) (f : Interlock → Interlock) : (s.updInter f).auth = s.auth := rfl
@[simp] theorem updInter_inter (s : State) (f : Interlock → Interlock) : (s.updInter f).inter = f s.inter := rfl
@[simp] theorem updInter_prot (s : State) (f : Interlock → Interlock) : (s.updInter f).prot = s.prot := rfl
@[simp] theorem updInter_router (s : State) (f : Interlock → Interlock) : (s.updInter f).router = s.router := rfl
@[simp] theorem updInter_src (s : State) (f : Interlock → Interlock) : (s.updInter f).src = s.src := rfl
@[simp] theorem updInter_eng (s : State) (f : Interlock → Interlock) : (s.updInter f).eng = s.eng := rfl
@[simp] theorem updInter_sync (s : State) (f : Interlock → Interlock) : (s.updInter f).sync = s.sync := rfl
@[simp] theorem updInter_led (s : State) (f : Interlock → Interlock) : (s.updInter f).led = s.led := rfl
@[simp] theorem updInter_link (s : State) (f : Interlock → Interlock) : (s.updInter f).link = s.link := rfl
@[simp] theorem updInter_lockAsk (s : State) (f : Interlock → Interlock) : (s.updInter f).lockAsk = s.lockAsk := rfl
@[simp] theorem updInter_choices (s : State) (f : Interlock → Interlock) : (s.updInter f).choices = s.choices := rfl
@[simp] theorem updInter_choiceCount (s : State) (f : Interlock → Interlock) : (s.updInter f).choiceCount = s.choiceCount := rfl
@[simp] theorem updInter_inbox (s : State) (f : Interlock → Interlock) : (s.updInter f).inbox = s.inbox := rfl
@[simp] theorem updInter_pending (s : State) (f : Interlock → Interlock) : (s.updInter f).pending = s.pending := rfl

/-! ### `updGroup` -/

@[simp] theorem updGroup_base (s : State) (f : Group → Group) : (s.updGroup f).base = s.base := rfl
@[simp] theorem updGroup_set (s : State) (f : Group → Group) : (s.updGroup f).set = s.set := rfl
@[simp] theorem updGroup_staged (s : State) (f : Group → Group) : (s.updGroup f).staged = s.staged := rfl
@[simp] theorem updGroup_modes (s : State) (f : Group → Group) : (s.updGroup f).modes = s.modes := rfl
@[simp] theorem updGroup_pos (s : State) (f : Group → Group) : (s.updGroup f).pos = s.pos := rfl
@[simp] theorem updGroup_feeds (s : State) (f : Group → Group) : (s.updGroup f).feeds = s.feeds := rfl
@[simp] theorem updGroup_meas (s : State) (f : Group → Group) : (s.updGroup f).meas = s.meas := rfl
@[simp] theorem updGroup_auth (s : State) (f : Group → Group) : (s.updGroup f).auth = s.auth := rfl
@[simp] theorem updGroup_inter (s : State) (f : Group → Group) : (s.updGroup f).inter = { s.inter with group := f s.inter.group } := rfl
@[simp] theorem updGroup_prot (s : State) (f : Group → Group) : (s.updGroup f).prot = s.prot := rfl
@[simp] theorem updGroup_router (s : State) (f : Group → Group) : (s.updGroup f).router = s.router := rfl
@[simp] theorem updGroup_src (s : State) (f : Group → Group) : (s.updGroup f).src = s.src := rfl
@[simp] theorem updGroup_eng (s : State) (f : Group → Group) : (s.updGroup f).eng = s.eng := rfl
@[simp] theorem updGroup_sync (s : State) (f : Group → Group) : (s.updGroup f).sync = s.sync := rfl
@[simp] theorem updGroup_led (s : State) (f : Group → Group) : (s.updGroup f).led = s.led := rfl
@[simp] theorem updGroup_link (s : State) (f : Group → Group) : (s.updGroup f).link = s.link := rfl
@[simp] theorem updGroup_lockAsk (s : State) (f : Group → Group) : (s.updGroup f).lockAsk = s.lockAsk := rfl
@[simp] theorem updGroup_choices (s : State) (f : Group → Group) : (s.updGroup f).choices = s.choices := rfl
@[simp] theorem updGroup_choiceCount (s : State) (f : Group → Group) : (s.updGroup f).choiceCount = s.choiceCount := rfl
@[simp] theorem updGroup_inbox (s : State) (f : Group → Group) : (s.updGroup f).inbox = s.inbox := rfl
@[simp] theorem updGroup_pending (s : State) (f : Group → Group) : (s.updGroup f).pending = s.pending := rfl

/-! ### `updEng` -/

@[simp] theorem updEng_base (s : State) (f : Engine → Engine) : (s.updEng f).base = s.base := rfl
@[simp] theorem updEng_set (s : State) (f : Engine → Engine) : (s.updEng f).set = s.set := rfl
@[simp] theorem updEng_staged (s : State) (f : Engine → Engine) : (s.updEng f).staged = s.staged := rfl
@[simp] theorem updEng_modes (s : State) (f : Engine → Engine) : (s.updEng f).modes = s.modes := rfl
@[simp] theorem updEng_pos (s : State) (f : Engine → Engine) : (s.updEng f).pos = s.pos := rfl
@[simp] theorem updEng_feeds (s : State) (f : Engine → Engine) : (s.updEng f).feeds = s.feeds := rfl
@[simp] theorem updEng_meas (s : State) (f : Engine → Engine) : (s.updEng f).meas = s.meas := rfl
@[simp] theorem updEng_auth (s : State) (f : Engine → Engine) : (s.updEng f).auth = s.auth := rfl
@[simp] theorem updEng_inter (s : State) (f : Engine → Engine) : (s.updEng f).inter = s.inter := rfl
@[simp] theorem updEng_prot (s : State) (f : Engine → Engine) : (s.updEng f).prot = s.prot := rfl
@[simp] theorem updEng_router (s : State) (f : Engine → Engine) : (s.updEng f).router = s.router := rfl
@[simp] theorem updEng_src (s : State) (f : Engine → Engine) : (s.updEng f).src = s.src := rfl
@[simp] theorem updEng_eng (s : State) (f : Engine → Engine) : (s.updEng f).eng = f s.eng := rfl
@[simp] theorem updEng_sync (s : State) (f : Engine → Engine) : (s.updEng f).sync = s.sync := rfl
@[simp] theorem updEng_led (s : State) (f : Engine → Engine) : (s.updEng f).led = s.led := rfl
@[simp] theorem updEng_link (s : State) (f : Engine → Engine) : (s.updEng f).link = s.link := rfl
@[simp] theorem updEng_lockAsk (s : State) (f : Engine → Engine) : (s.updEng f).lockAsk = s.lockAsk := rfl
@[simp] theorem updEng_choices (s : State) (f : Engine → Engine) : (s.updEng f).choices = s.choices := rfl
@[simp] theorem updEng_choiceCount (s : State) (f : Engine → Engine) : (s.updEng f).choiceCount = s.choiceCount := rfl
@[simp] theorem updEng_inbox (s : State) (f : Engine → Engine) : (s.updEng f).inbox = s.inbox := rfl
@[simp] theorem updEng_pending (s : State) (f : Engine → Engine) : (s.updEng f).pending = s.pending := rfl

/-! ### `updAttempt` -/

@[simp] theorem updAttempt_base (s : State) (f : Attempt → Attempt) : (s.updAttempt f).base = s.base := rfl
@[simp] theorem updAttempt_set (s : State) (f : Attempt → Attempt) : (s.updAttempt f).set = s.set := rfl
@[simp] theorem updAttempt_staged (s : State) (f : Attempt → Attempt) : (s.updAttempt f).staged = s.staged := rfl
@[simp] theorem updAttempt_modes (s : State) (f : Attempt → Attempt) : (s.updAttempt f).modes = s.modes := rfl
@[simp] theorem updAttempt_pos (s : State) (f : Attempt → Attempt) : (s.updAttempt f).pos = s.pos := rfl
@[simp] theorem updAttempt_feeds (s : State) (f : Attempt → Attempt) : (s.updAttempt f).feeds = s.feeds := rfl
@[simp] theorem updAttempt_meas (s : State) (f : Attempt → Attempt) : (s.updAttempt f).meas = s.meas := rfl
@[simp] theorem updAttempt_auth (s : State) (f : Attempt → Attempt) : (s.updAttempt f).auth = s.auth := rfl
@[simp] theorem updAttempt_inter (s : State) (f : Attempt → Attempt) : (s.updAttempt f).inter = s.inter := rfl
@[simp] theorem updAttempt_prot (s : State) (f : Attempt → Attempt) : (s.updAttempt f).prot = s.prot := rfl
@[simp] theorem updAttempt_router (s : State) (f : Attempt → Attempt) : (s.updAttempt f).router = s.router := rfl
@[simp] theorem updAttempt_src (s : State) (f : Attempt → Attempt) : (s.updAttempt f).src = s.src := rfl
@[simp] theorem updAttempt_eng (s : State) (f : Attempt → Attempt) : (s.updAttempt f).eng = s.eng := rfl
@[simp] theorem updAttempt_sync (s : State) (f : Attempt → Attempt) : (s.updAttempt f).sync = { s.sync with att := f s.sync.att } := rfl
@[simp] theorem updAttempt_led (s : State) (f : Attempt → Attempt) : (s.updAttempt f).led = s.led := rfl
@[simp] theorem updAttempt_link (s : State) (f : Attempt → Attempt) : (s.updAttempt f).link = s.link := rfl
@[simp] theorem updAttempt_lockAsk (s : State) (f : Attempt → Attempt) : (s.updAttempt f).lockAsk = s.lockAsk := rfl
@[simp] theorem updAttempt_choices (s : State) (f : Attempt → Attempt) : (s.updAttempt f).choices = s.choices := rfl
@[simp] theorem updAttempt_choiceCount (s : State) (f : Attempt → Attempt) : (s.updAttempt f).choiceCount = s.choiceCount := rfl
@[simp] theorem updAttempt_inbox (s : State) (f : Attempt → Attempt) : (s.updAttempt f).inbox = s.inbox := rfl
@[simp] theorem updAttempt_pending (s : State) (f : Attempt → Attempt) : (s.updAttempt f).pending = s.pending := rfl

/-! ### `setSync` -/

@[simp] theorem setSync_base (s : State) (st : SyncState) : (s.setSync st).base = s.base := rfl
@[simp] theorem setSync_set (s : State) (st : SyncState) : (s.setSync st).set = s.set := rfl
@[simp] theorem setSync_staged (s : State) (st : SyncState) : (s.setSync st).staged = s.staged := rfl
@[simp] theorem setSync_modes (s : State) (st : SyncState) : (s.setSync st).modes = s.modes := rfl
@[simp] theorem setSync_pos (s : State) (st : SyncState) : (s.setSync st).pos = s.pos := rfl
@[simp] theorem setSync_feeds (s : State) (st : SyncState) : (s.setSync st).feeds = s.feeds := rfl
@[simp] theorem setSync_meas (s : State) (st : SyncState) : (s.setSync st).meas = s.meas := rfl
@[simp] theorem setSync_auth (s : State) (st : SyncState) : (s.setSync st).auth = s.auth := rfl
@[simp] theorem setSync_inter (s : State) (st : SyncState) : (s.setSync st).inter = s.inter := rfl
@[simp] theorem setSync_prot (s : State) (st : SyncState) : (s.setSync st).prot = s.prot := rfl
@[simp] theorem setSync_router (s : State) (st : SyncState) : (s.setSync st).router = s.router := rfl
@[simp] theorem setSync_src (s : State) (st : SyncState) : (s.setSync st).src = s.src := rfl
@[simp] theorem setSync_eng (s : State) (st : SyncState) : (s.setSync st).eng = s.eng := rfl
@[simp] theorem setSync_sync (s : State) (st : SyncState) : (s.setSync st).sync = { s.sync with state := st } := rfl
@[simp] theorem setSync_led (s : State) (st : SyncState) : (s.setSync st).led = s.led := rfl
@[simp] theorem setSync_link (s : State) (st : SyncState) : (s.setSync st).link = s.link := rfl
@[simp] theorem setSync_lockAsk (s : State) (st : SyncState) : (s.setSync st).lockAsk = s.lockAsk := rfl
@[simp] theorem setSync_choices (s : State) (st : SyncState) : (s.setSync st).choices = s.choices := rfl
@[simp] theorem setSync_choiceCount (s : State) (st : SyncState) : (s.setSync st).choiceCount = s.choiceCount := rfl
@[simp] theorem setSync_inbox (s : State) (st : SyncState) : (s.setSync st).inbox = s.inbox := rfl
@[simp] theorem setSync_pending (s : State) (st : SyncState) : (s.setSync st).pending = s.pending := rfl

/-! ### `setGen` -/

@[simp] theorem setGen_base (s : State) (g : GenIx) (r : GenRec) : (s.setGen g r).base = s.base := rfl
@[simp] theorem setGen_set (s : State) (g : GenIx) (r : GenRec) : (s.setGen g r).set = s.set := rfl
@[simp] theorem setGen_staged (s : State) (g : GenIx) (r : GenRec) : (s.setGen g r).staged = s.staged := rfl
@[simp] theorem setGen_modes (s : State) (g : GenIx) (r : GenRec) : (s.setGen g r).modes = s.modes := rfl
@[simp] theorem setGen_pos (s : State) (g : GenIx) (r : GenRec) : (s.setGen g r).pos = s.pos := rfl
@[simp] theorem setGen_feeds (s : State) (g : GenIx) (r : GenRec) : (s.setGen g r).feeds = s.feeds := rfl
@[simp] theorem setGen_meas (s : State) (g : GenIx) (r : GenRec) : (s.setGen g r).meas = s.meas := rfl
@[simp] theorem setGen_auth (s : State) (g : GenIx) (r : GenRec) : (s.setGen g r).auth = s.auth := rfl
@[simp] theorem setGen_inter (s : State) (g : GenIx) (r : GenRec) : (s.setGen g r).inter = s.inter := rfl
@[simp] theorem setGen_prot (s : State) (g : GenIx) (r : GenRec) : (s.setGen g r).prot = s.prot := rfl
@[simp] theorem setGen_router (s : State) (g : GenIx) (r : GenRec) : (s.setGen g r).router = s.router := rfl
@[simp] theorem setGen_src (s : State) (g : GenIx) (r : GenRec) : (s.setGen g r).src = s.src := rfl
@[simp] theorem setGen_eng (s : State) (g : GenIx) (r : GenRec) : (s.setGen g r).eng = s.eng := rfl
@[simp] theorem setGen_sync (s : State) (g : GenIx) (r : GenRec) : (s.setGen g r).sync = s.sync := rfl
@[simp] theorem setGen_led (s : State) (g : GenIx) (r : GenRec) : (s.setGen g r).led = { s.led with gens := s.led.gens.set g r } := rfl
@[simp] theorem setGen_link (s : State) (g : GenIx) (r : GenRec) : (s.setGen g r).link = s.link := rfl
@[simp] theorem setGen_lockAsk (s : State) (g : GenIx) (r : GenRec) : (s.setGen g r).lockAsk = s.lockAsk := rfl
@[simp] theorem setGen_choices (s : State) (g : GenIx) (r : GenRec) : (s.setGen g r).choices = s.choices := rfl
@[simp] theorem setGen_choiceCount (s : State) (g : GenIx) (r : GenRec) : (s.setGen g r).choiceCount = s.choiceCount := rfl
@[simp] theorem setGen_inbox (s : State) (g : GenIx) (r : GenRec) : (s.setGen g r).inbox = s.inbox := rfl
@[simp] theorem setGen_pending (s : State) (g : GenIx) (r : GenRec) : (s.setGen g r).pending = s.pending := rfl

/-! ### `updLed` -/

@[simp] theorem updLed_base (s : State) (f : Ledger → Ledger) : (s.updLed f).base = s.base := rfl
@[simp] theorem updLed_set (s : State) (f : Ledger → Ledger) : (s.updLed f).set = s.set := rfl
@[simp] theorem updLed_staged (s : State) (f : Ledger → Ledger) : (s.updLed f).staged = s.staged := rfl
@[simp] theorem updLed_modes (s : State) (f : Ledger → Ledger) : (s.updLed f).modes = s.modes := rfl
@[simp] theorem updLed_pos (s : State) (f : Ledger → Ledger) : (s.updLed f).pos = s.pos := rfl
@[simp] theorem updLed_feeds (s : State) (f : Ledger → Ledger) : (s.updLed f).feeds = s.feeds := rfl
@[simp] theorem updLed_meas (s : State) (f : Ledger → Ledger) : (s.updLed f).meas = s.meas := rfl
@[simp] theorem updLed_auth (s : State) (f : Ledger → Ledger) : (s.updLed f).auth = s.auth := rfl
@[simp] theorem updLed_inter (s : State) (f : Ledger → Ledger) : (s.updLed f).inter = s.inter := rfl
@[simp] theorem updLed_prot (s : State) (f : Ledger → Ledger) : (s.updLed f).prot = s.prot := rfl
@[simp] theorem updLed_router (s : State) (f : Ledger → Ledger) : (s.updLed f).router = s.router := rfl
@[simp] theorem updLed_src (s : State) (f : Ledger → Ledger) : (s.updLed f).src = s.src := rfl
@[simp] theorem updLed_eng (s : State) (f : Ledger → Ledger) : (s.updLed f).eng = s.eng := rfl
@[simp] theorem updLed_sync (s : State) (f : Ledger → Ledger) : (s.updLed f).sync = s.sync := rfl
@[simp] theorem updLed_led (s : State) (f : Ledger → Ledger) : (s.updLed f).led = f s.led := rfl
@[simp] theorem updLed_link (s : State) (f : Ledger → Ledger) : (s.updLed f).link = s.link := rfl
@[simp] theorem updLed_lockAsk (s : State) (f : Ledger → Ledger) : (s.updLed f).lockAsk = s.lockAsk := rfl
@[simp] theorem updLed_choices (s : State) (f : Ledger → Ledger) : (s.updLed f).choices = s.choices := rfl
@[simp] theorem updLed_choiceCount (s : State) (f : Ledger → Ledger) : (s.updLed f).choiceCount = s.choiceCount := rfl
@[simp] theorem updLed_inbox (s : State) (f : Ledger → Ledger) : (s.updLed f).inbox = s.inbox := rfl
@[simp] theorem updLed_pending (s : State) (f : Ledger → Ledger) : (s.updLed f).pending = s.pending := rfl

/-! ### `setPlan` -/

@[simp] theorem setPlan_base (s : State) (slot : SlotIx) (pl : Plan) : (s.setPlan slot pl).base = s.base := rfl
@[simp] theorem setPlan_set (s : State) (slot : SlotIx) (pl : Plan) :
    (s.setPlan slot pl).set = { s.set with plans := s.set.plans.set slot pl } := rfl
@[simp] theorem setPlan_staged (s : State) (slot : SlotIx) (pl : Plan) : (s.setPlan slot pl).staged = s.staged := rfl
@[simp] theorem setPlan_modes (s : State) (slot : SlotIx) (pl : Plan) : (s.setPlan slot pl).modes = s.modes := rfl
@[simp] theorem setPlan_pos (s : State) (slot : SlotIx) (pl : Plan) : (s.setPlan slot pl).pos = s.pos := rfl
@[simp] theorem setPlan_feeds (s : State) (slot : SlotIx) (pl : Plan) : (s.setPlan slot pl).feeds = s.feeds := rfl
@[simp] theorem setPlan_meas (s : State) (slot : SlotIx) (pl : Plan) : (s.setPlan slot pl).meas = s.meas := rfl
@[simp] theorem setPlan_auth (s : State) (slot : SlotIx) (pl : Plan) : (s.setPlan slot pl).auth = s.auth := rfl
@[simp] theorem setPlan_inter (s : State) (slot : SlotIx) (pl : Plan) : (s.setPlan slot pl).inter = s.inter := rfl
@[simp] theorem setPlan_prot (s : State) (slot : SlotIx) (pl : Plan) : (s.setPlan slot pl).prot = s.prot := rfl
@[simp] theorem setPlan_router (s : State) (slot : SlotIx) (pl : Plan) : (s.setPlan slot pl).router = s.router := rfl
@[simp] theorem setPlan_src (s : State) (slot : SlotIx) (pl : Plan) : (s.setPlan slot pl).src = s.src := rfl
@[simp] theorem setPlan_eng (s : State) (slot : SlotIx) (pl : Plan) : (s.setPlan slot pl).eng = s.eng := rfl
@[simp] theorem setPlan_sync (s : State) (slot : SlotIx) (pl : Plan) : (s.setPlan slot pl).sync = s.sync := rfl
@[simp] theorem setPlan_led (s : State) (slot : SlotIx) (pl : Plan) : (s.setPlan slot pl).led = s.led := rfl
@[simp] theorem setPlan_link (s : State) (slot : SlotIx) (pl : Plan) : (s.setPlan slot pl).link = s.link := rfl
@[simp] theorem setPlan_lockAsk (s : State) (slot : SlotIx) (pl : Plan) : (s.setPlan slot pl).lockAsk = s.lockAsk := rfl
@[simp] theorem setPlan_choices (s : State) (slot : SlotIx) (pl : Plan) : (s.setPlan slot pl).choices = s.choices := rfl
@[simp] theorem setPlan_choiceCount (s : State) (slot : SlotIx) (pl : Plan) : (s.setPlan slot pl).choiceCount = s.choiceCount := rfl
@[simp] theorem setPlan_inbox (s : State) (slot : SlotIx) (pl : Plan) : (s.setPlan slot pl).inbox = s.inbox := rfl
@[simp] theorem setPlan_pending (s : State) (slot : SlotIx) (pl : Plan) : (s.setPlan slot pl).pending = s.pending := rfl

/-! ### `updPort` -/

@[simp] theorem updPort_base (s : State) (i : PortIx) (f : PortRec → PortRec) : (s.updPort i f).base = s.base := rfl
@[simp] theorem updPort_set (s : State) (i : PortIx) (f : PortRec → PortRec) : (s.updPort i f).set = s.set := rfl
@[simp] theorem updPort_staged (s : State) (i : PortIx) (f : PortRec → PortRec) : (s.updPort i f).staged = s.staged := rfl
@[simp] theorem updPort_modes (s : State) (i : PortIx) (f : PortRec → PortRec) : (s.updPort i f).modes = s.modes := rfl
@[simp] theorem updPort_pos (s : State) (i : PortIx) (f : PortRec → PortRec) : (s.updPort i f).pos = s.pos := rfl
@[simp] theorem updPort_feeds (s : State) (i : PortIx) (f : PortRec → PortRec) : (s.updPort i f).feeds = s.feeds := rfl
@[simp] theorem updPort_meas (s : State) (i : PortIx) (f : PortRec → PortRec) : (s.updPort i f).meas = s.meas := rfl
@[simp] theorem updPort_auth (s : State) (i : PortIx) (f : PortRec → PortRec) : (s.updPort i f).auth = s.auth := rfl
@[simp] theorem updPort_inter (s : State) (i : PortIx) (f : PortRec → PortRec) : (s.updPort i f).inter = s.inter := rfl
@[simp] theorem updPort_prot (s : State) (i : PortIx) (f : PortRec → PortRec) : (s.updPort i f).prot = s.prot := rfl
@[simp] theorem updPort_router (s : State) (i : PortIx) (f : PortRec → PortRec) : (s.updPort i f).router = s.router := rfl
@[simp] theorem updPort_src (s : State) (i : PortIx) (f : PortRec → PortRec) : (s.updPort i f).src = s.src := rfl
@[simp] theorem updPort_eng (s : State) (i : PortIx) (f : PortRec → PortRec) : (s.updPort i f).eng = s.eng := rfl
@[simp] theorem updPort_sync (s : State) (i : PortIx) (f : PortRec → PortRec) : (s.updPort i f).sync = s.sync := rfl
@[simp] theorem updPort_led (s : State) (i : PortIx) (f : PortRec → PortRec) : (s.updPort i f).led = s.led := rfl
@[simp] theorem updPort_link (s : State) (i : PortIx) (f : PortRec → PortRec) :
    (s.updPort i f).link = { s.link with ports := s.link.ports.set i (f s.link.ports[i]) } := rfl
@[simp] theorem updPort_lockAsk (s : State) (i : PortIx) (f : PortRec → PortRec) : (s.updPort i f).lockAsk = s.lockAsk := rfl
@[simp] theorem updPort_choices (s : State) (i : PortIx) (f : PortRec → PortRec) : (s.updPort i f).choices = s.choices := rfl
@[simp] theorem updPort_choiceCount (s : State) (i : PortIx) (f : PortRec → PortRec) : (s.updPort i f).choiceCount = s.choiceCount := rfl
@[simp] theorem updPort_inbox (s : State) (i : PortIx) (f : PortRec → PortRec) : (s.updPort i f).inbox = s.inbox := rfl
@[simp] theorem updPort_pending (s : State) (i : PortIx) (f : PortRec → PortRec) : (s.updPort i f).pending = s.pending := rfl

/-! ### `queueReply` -/

@[simp] theorem queueReply_base (s : State) (c : Caller) (a : Answer) : (s.queueReply c a).base = s.base := rfl
@[simp] theorem queueReply_set (s : State) (c : Caller) (a : Answer) : (s.queueReply c a).set = s.set := rfl
@[simp] theorem queueReply_staged (s : State) (c : Caller) (a : Answer) : (s.queueReply c a).staged = s.staged := rfl
@[simp] theorem queueReply_modes (s : State) (c : Caller) (a : Answer) : (s.queueReply c a).modes = s.modes := rfl
@[simp] theorem queueReply_pos (s : State) (c : Caller) (a : Answer) : (s.queueReply c a).pos = s.pos := rfl
@[simp] theorem queueReply_feeds (s : State) (c : Caller) (a : Answer) : (s.queueReply c a).feeds = s.feeds := rfl
@[simp] theorem queueReply_meas (s : State) (c : Caller) (a : Answer) : (s.queueReply c a).meas = s.meas := rfl
@[simp] theorem queueReply_auth (s : State) (c : Caller) (a : Answer) : (s.queueReply c a).auth = s.auth := rfl
@[simp] theorem queueReply_inter (s : State) (c : Caller) (a : Answer) : (s.queueReply c a).inter = s.inter := rfl
@[simp] theorem queueReply_prot (s : State) (c : Caller) (a : Answer) : (s.queueReply c a).prot = s.prot := rfl
@[simp] theorem queueReply_router (s : State) (c : Caller) (a : Answer) : (s.queueReply c a).router = s.router := rfl
@[simp] theorem queueReply_src (s : State) (c : Caller) (a : Answer) : (s.queueReply c a).src = s.src := rfl
@[simp] theorem queueReply_eng (s : State) (c : Caller) (a : Answer) : (s.queueReply c a).eng = s.eng := rfl
@[simp] theorem queueReply_sync (s : State) (c : Caller) (a : Answer) : (s.queueReply c a).sync = s.sync := rfl
@[simp] theorem queueReply_led (s : State) (c : Caller) (a : Answer) : (s.queueReply c a).led = s.led := rfl
@[simp] theorem queueReply_lockAsk (s : State) (c : Caller) (a : Answer) : (s.queueReply c a).lockAsk = s.lockAsk := rfl
@[simp] theorem queueReply_choices (s : State) (c : Caller) (a : Answer) : (s.queueReply c a).choices = s.choices := rfl
@[simp] theorem queueReply_choiceCount (s : State) (c : Caller) (a : Answer) : (s.queueReply c a).choiceCount = s.choiceCount := rfl
@[simp] theorem queueReply_inbox (s : State) (c : Caller) (a : Answer) : (s.queueReply c a).inbox = s.inbox := rfl
@[simp] theorem queueReply_pending (s : State) (c : Caller) (a : Answer) : (s.queueReply c a).pending = s.pending := rfl

/-! ### `notePort` -/

@[simp] theorem notePort_base (s : State) (q : Req) : (s.notePort q).base = s.base := by simp only [State.notePort]
@[simp] theorem notePort_set (s : State) (q : Req) : (s.notePort q).set = s.set := by simp only [State.notePort]
@[simp] theorem notePort_staged (s : State) (q : Req) : (s.notePort q).staged = s.staged := by simp only [State.notePort]
@[simp] theorem notePort_modes (s : State) (q : Req) : (s.notePort q).modes = s.modes := by simp only [State.notePort]
@[simp] theorem notePort_pos (s : State) (q : Req) : (s.notePort q).pos = s.pos := by simp only [State.notePort]
@[simp] theorem notePort_feeds (s : State) (q : Req) : (s.notePort q).feeds = s.feeds := by simp only [State.notePort]
@[simp] theorem notePort_meas (s : State) (q : Req) : (s.notePort q).meas = s.meas := by simp only [State.notePort]
@[simp] theorem notePort_auth (s : State) (q : Req) : (s.notePort q).auth = s.auth := by simp only [State.notePort]
@[simp] theorem notePort_inter (s : State) (q : Req) : (s.notePort q).inter = s.inter := by simp only [State.notePort]
@[simp] theorem notePort_prot (s : State) (q : Req) : (s.notePort q).prot = s.prot := by simp only [State.notePort]
@[simp] theorem notePort_router (s : State) (q : Req) : (s.notePort q).router = s.router := by simp only [State.notePort]
@[simp] theorem notePort_src (s : State) (q : Req) : (s.notePort q).src = s.src := by simp only [State.notePort]
@[simp] theorem notePort_eng (s : State) (q : Req) : (s.notePort q).eng = s.eng := by simp only [State.notePort]
@[simp] theorem notePort_sync (s : State) (q : Req) : (s.notePort q).sync = s.sync := by simp only [State.notePort]
@[simp] theorem notePort_led (s : State) (q : Req) : (s.notePort q).led = s.led := by simp only [State.notePort]
@[simp] theorem notePort_lockAsk (s : State) (q : Req) : (s.notePort q).lockAsk = s.lockAsk := by simp only [State.notePort]
@[simp] theorem notePort_choices (s : State) (q : Req) : (s.notePort q).choices = s.choices := by simp only [State.notePort]
@[simp] theorem notePort_choiceCount (s : State) (q : Req) : (s.notePort q).choiceCount = s.choiceCount := by simp only [State.notePort]
@[simp] theorem notePort_inbox (s : State) (q : Req) : (s.notePort q).inbox = s.inbox := by simp only [State.notePort]
@[simp] theorem notePort_pending (s : State) (q : Req) : (s.notePort q).pending = s.pending := by simp only [State.notePort]

/-! ### `renew` -/

@[simp] theorem renew_base (s : State) (m : MasterIx) (p : Pos) : (s.renew m p).base = s.base := rfl
@[simp] theorem renew_set (s : State) (m : MasterIx) (p : Pos) : (s.renew m p).set = s.set := rfl
@[simp] theorem renew_staged (s : State) (m : MasterIx) (p : Pos) : (s.renew m p).staged = s.staged := rfl
@[simp] theorem renew_modes (s : State) (m : MasterIx) (p : Pos) : (s.renew m p).modes = s.modes := rfl
@[simp] theorem renew_pos (s : State) (m : MasterIx) (p : Pos) : (s.renew m p).pos = s.pos := rfl
@[simp] theorem renew_feeds (s : State) (m : MasterIx) (p : Pos) : (s.renew m p).feeds = s.feeds := rfl
@[simp] theorem renew_meas (s : State) (m : MasterIx) (p : Pos) : (s.renew m p).meas = s.meas := rfl
@[simp] theorem renew_auth (s : State) (m : MasterIx) (p : Pos) :
    (s.renew m p).auth = { s.auth with permits := s.auth.permits.set p (s.auth.permits[p].map (Permit.renewed s.fullLease m)) } := rfl
@[simp] theorem renew_inter (s : State) (m : MasterIx) (p : Pos) : (s.renew m p).inter = s.inter := rfl
@[simp] theorem renew_prot (s : State) (m : MasterIx) (p : Pos) : (s.renew m p).prot = s.prot := rfl
@[simp] theorem renew_router (s : State) (m : MasterIx) (p : Pos) : (s.renew m p).router = s.router := rfl
@[simp] theorem renew_src (s : State) (m : MasterIx) (p : Pos) : (s.renew m p).src = s.src := rfl
@[simp] theorem renew_eng (s : State) (m : MasterIx) (p : Pos) : (s.renew m p).eng = s.eng := rfl
@[simp] theorem renew_sync (s : State) (m : MasterIx) (p : Pos) : (s.renew m p).sync = s.sync := rfl
@[simp] theorem renew_led (s : State) (m : MasterIx) (p : Pos) : (s.renew m p).led = s.led := rfl
@[simp] theorem renew_link (s : State) (m : MasterIx) (p : Pos) : (s.renew m p).link = s.link := rfl
@[simp] theorem renew_lockAsk (s : State) (m : MasterIx) (p : Pos) : (s.renew m p).lockAsk = s.lockAsk := rfl
@[simp] theorem renew_choices (s : State) (m : MasterIx) (p : Pos) : (s.renew m p).choices = s.choices := rfl
@[simp] theorem renew_choiceCount (s : State) (m : MasterIx) (p : Pos) : (s.renew m p).choiceCount = s.choiceCount := rfl
@[simp] theorem renew_inbox (s : State) (m : MasterIx) (p : Pos) : (s.renew m p).inbox = s.inbox := rfl
@[simp] theorem renew_pending (s : State) (m : MasterIx) (p : Pos) : (s.renew m p).pending = s.pending := rfl

/-- A port noted changes the link alone. -/
theorem notePort_link (s : State) (q : Req) : ∃ l : Link, s.notePort q = { s with link := l } := ⟨_, rfl⟩

/-! ### What a request asks of the state, after its port is noted -/

@[simp] theorem notePort_roleOf (s : State) (q : Req) (m : MasterIx) : (s.notePort q).roleOf m = s.roleOf m := by
  obtain ⟨l, h⟩ := notePort_link s q
  rw [h]
  rfl

@[simp] theorem notePort_holds (s : State) (q : Req) (m : MasterIx) (p : Pos) : (s.notePort q).holds m p = s.holds m p := by
  obtain ⟨l, h⟩ := notePort_link s q
  rw [h]
  rfl

@[simp] theorem notePort_fitted (s : State) (q : Req) (p : Pos) : (s.notePort q).fitted p = s.fitted p := by
  obtain ⟨l, h⟩ := notePort_link s q
  rw [h]
  rfl

@[simp] theorem notePort_grantable (s : State) (q : Req) (m : MasterIx) (k : PermitKind) (p : Pos) :
    (s.notePort q).grantable m k p = s.grantable m k p := by
  obtain ⟨l, h⟩ := notePort_link s q
  rw [h]
  rfl

@[simp] theorem notePort_fullLease (s : State) (q : Req) : (s.notePort q).fullLease = s.fullLease := by
  obtain ⟨l, h⟩ := notePort_link s q
  rw [h]
  rfl

@[simp] theorem notePort_matchMaster (s : State) (q : Req) (n : Nat) : (s.notePort q).matchMaster n = s.matchMaster n := by
  obtain ⟨l, h⟩ := notePort_link s q
  rw [h]
  rfl

@[simp] theorem notePort_closePermitted (s : State) (q : Req) (p : Pos) : (s.notePort q).closePermitted p = s.closePermitted p := by
  obtain ⟨l, h⟩ := notePort_link s q
  rw [h]
  rfl

@[simp] theorem notePort_openPermitted (s : State) (q : Req) (p : Pos) : (s.notePort q).openPermitted p = s.openPermitted p := by
  obtain ⟨l, h⟩ := notePort_link s q
  rw [h]
  rfl

@[simp] theorem notePort_parallelRule (s : State) (q : Req) (p : Pos) (x : Bool) :
    (s.notePort q).parallelRule p x = s.parallelRule p x := by
  obtain ⟨l, h⟩ := notePort_link s q
  rw [h]
  rfl

@[simp] theorem notePort_capacityCheck (s : State) (q : Req) (p : Pos) (n : Nat) :
    (s.notePort q).capacityCheck p n = s.capacityCheck p n := by
  obtain ⟨l, h⟩ := notePort_link s q
  rw [h]
  rfl

@[simp] theorem notePort_headroom (s : State) (q : Req) : (s.notePort q).headroom = s.headroom := by
  obtain ⟨l, h⟩ := notePort_link s q
  rw [h]
  rfl

@[simp] theorem notePort_checkPosition (s : State) (q : Req) (p : Pos) : (s.notePort q).checkPosition p = s.checkPosition p := by
  obtain ⟨l, h⟩ := notePort_link s q
  rw [h]
  rfl

@[simp] theorem notePort_checkLocks (s : State) (q : Req) (p : Pos) : (s.notePort q).checkLocks p = s.checkLocks p := by
  obtain ⟨l, h⟩ := notePort_link s q
  rw [h]
  rfl

@[simp] theorem notePort_checkCloseFlags (s : State) (q : Req) (p : Pos) : (s.notePort q).checkCloseFlags p = s.checkCloseFlags p := by
  obtain ⟨l, h⟩ := notePort_link s q
  rw [h]
  rfl

@[simp] theorem notePort_checkOpenPermit (s : State) (q : Req) (p : Pos) : (s.notePort q).checkOpenPermit p = s.checkOpenPermit p := by
  obtain ⟨l, h⟩ := notePort_link s q
  rw [h]
  rfl

@[simp] theorem notePort_checkRequester (s : State) (q : Req) (m : MasterIx) (p : Pos) (h : Bool) :
    (s.notePort q).checkRequester m p h = s.checkRequester m p h := by
  obtain ⟨l, h⟩ := notePort_link s q
  rw [h]
  rfl

@[simp] theorem notePort_closeChecks (s : State) (q : Req) (p : Pos) : (s.notePort q).closeChecks p = s.closeChecks p := by
  obtain ⟨l, h⟩ := notePort_link s q
  rw [h]
  rfl

@[simp] theorem notePort_maintRefuses (s : State) (q : Req) (p : Pos) (o : Origin) (r : Option MasterIx) :
    (s.notePort q).maintRefuses p o r = s.maintRefuses p o r := by
  obtain ⟨l, h⟩ := notePort_link s q
  rw [h]
  rfl

@[simp] theorem notePort_closeRefused (s : State) (q : Req) (p : Pos) (o : Origin) (r : Option MasterIx) :
    (s.notePort q).closeRefused p o r = s.closeRefused p o r := by
  obtain ⟨l, h⟩ := notePort_link s q
  rw [h]
  rfl

@[simp] theorem notePort_freeGenState (s : State) (q : Req) (g : GenIx) : (s.notePort q).freeGenState g = s.freeGenState g := by
  obtain ⟨l, h⟩ := notePort_link s q
  rw [h]
  rfl

@[simp] theorem notePort_deadBus (s : State) (q : Req) (p : Pos) : (s.notePort q).deadBus p = s.deadBus p := by
  obtain ⟨l, h⟩ := notePort_link s q
  rw [h]
  rfl

@[simp] theorem notePort_triggerCheck (s : State) (q : Req) (p : Pos) : (s.notePort q).triggerCheck p = s.triggerCheck p := by
  obtain ⟨l, h⟩ := notePort_link s q
  rw [h]
  rfl

@[simp] theorem notePort_syncAuthority (s : State) (q : Req) (e : SyncEntry) : (s.notePort q).syncAuthority e = s.syncAuthority e := by
  obtain ⟨l, h⟩ := notePort_link s q
  rw [h]
  rfl

@[simp] theorem notePort_linkUp (s : State) (q : Req) : (s.notePort q).linkUp = s.linkUp := by
  obtain ⟨l, h⟩ := notePort_link s q
  rw [h]
  rfl

@[simp] theorem notePort_queueFull (s : State) (q : Req) (r : Req) : (s.notePort q).queueFull r = s.queueFull r := by
  unfold State.queueFull State.notePort
  rfl


end Sys2Proof.Machine
end

