-- ==== Sys2Proof/Laws/Positions.lean ====
section
/-! SUPPORT. The operations over the position table: what a change of a position's state, an outcome recorded and a drive begun leave. -/

namespace Sys2Proof.Machine

/-- A position other than the one set is as it was. -/
theorem pos_set_ne {v : Vector PosRec 23} {p q : Pos} (h : q ≠ p) (r : PosRec) : (v.set p r)[q] = v[q] := by
  have : (p : Nat) ≠ q := fun e => h (Fin.ext e.symm)
  simp [this]

/-- The position set holds what it is set to. -/
theorem pos_set_self (v : Vector PosRec 23) (p : Pos) (r : PosRec) : (v.set p r)[p] = r := by simp

theorem updPos_self (s : State) (p : Pos) (f : PosRec → PosRec) : (s.updPos p f).pos[p] = f s.pos[p] := pos_set_self _ _ _

theorem updPos_other (s : State) {p q : Pos} (h : q ≠ p) (f : PosRec → PosRec) : (s.updPos p f).pos[q] = s.pos[q] := pos_set_ne h _

/-! ### A change of state (R2, R20) -/

/-- A position set to the state it is in changes nothing. -/
theorem setPosState_same {s : State} {p : Pos} {st : PosState} (h : s.pos[p].state = st) (k : ChangeKind) :
    s.setPosState p st k = s := by
  unfold State.setPosState
  rw [if_pos h]

/-- A change of state writes the record of the position, the feed sets, the notices and the list of what is handed on, and nothing
else. -/
theorem setPosState_change {s : State} {p : Pos} {st : PosState} (h : s.pos[p].state ≠ st) (k : ChangeKind) :
    let v := s.setPosState p st k
    v.pos = s.pos.set p { s.pos[p] with state := st, lastKind := k, lastStamp := s.base.timeBase }
      ∧ v.feeds = feedsOf v.pos
      ∧ v.inbox = s.inbox ++ (posEvents s p st ++ feedEvents s.feeds v.feeds p k)
      ∧ { v with pos := s.pos, feeds := s.feeds, link := s.link, inbox := s.inbox } = s := by
  unfold State.setPosState
  rw [if_neg h]
  exact ⟨rfl, rfl, rfl, rfl⟩

/-- After a change of state the position is in that state, whether it was in it before or not. -/
theorem setPosState_state (s : State) (p : Pos) (st : PosState) (k : ChangeKind) : (s.setPosState p st k).pos[p].state = st := by
  by_cases h : s.pos[p].state = st
  · rw [setPosState_same h, h]
  · rw [(setPosState_change h k).1, pos_set_self]

/-- A change of state leaves every other position. -/
theorem setPosState_other (s : State) {p q : Pos} (hq : q ≠ p) (st : PosState) (k : ChangeKind) :
    (s.setPosState p st k).pos[q] = s.pos[q] := by
  by_cases h : s.pos[p].state = st
  · rw [setPosState_same h]
  · rw [(setPosState_change h k).1, pos_set_ne hq]

/-- A change of state keeps the feed sets those of the table. -/
theorem setPosState_feeds {s : State} (h : s.feeds = feedsOf s.pos) (p : Pos) (st : PosState) (k : ChangeKind) :
    (s.setPosState p st k).feeds = feedsOf (s.setPosState p st k).pos := by
  by_cases hs : s.pos[p].state = st
  · rw [setPosState_same hs, h]
  · exact (setPosState_change hs k).2.1

/-! ### Outcomes (R14) -/

/-- An outcome recorded writes the last outcome of its position and the notices, and nothing else. -/
theorem recordOutcome_all (s : State) (p : Pos) (oc : PulseOutcome) (o : Origin) :
    (s.recordOutcome p oc o).pos = s.pos.set p { s.pos[p] with lastOutcome := some (oc, o) }
      ∧ { s.recordOutcome p oc o with pos := s.pos, link := s.link } = s := ⟨rfl, rfl⟩

/-- An outcome reported is recorded and handed to the block its origin names. -/
theorem report_all (s : State) (p : Pos) (oc : PulseOutcome) (closing : Bool) (o : Origin) :
    (s.report p oc closing o).pos = s.pos.set p { s.pos[p] with lastOutcome := some (oc, o) }
      ∧ (s.report p oc closing o).inbox = s.inbox ++ outcomeEvents p oc closing o
      ∧ { s.report p oc closing o with pos := s.pos, link := s.link, inbox := s.inbox } = s := ⟨rfl, rfl, rfl⟩

/-- A report keeps the state of every position. -/
theorem reportTo_state (s : State) (p q : Pos) (oc : PulseOutcome) (closing : Bool) (o : Option Origin) :
    (s.reportTo p oc closing o).pos[q].state = s.pos[q].state := by
  cases o with
  | none => rfl
  | some o =>
    show (s.report p oc closing o).pos[q].state = _
    rw [(report_all s p oc closing o).1]
    by_cases h : q = p
    · rw [h, pos_set_self]
    · rw [pos_set_ne h]

/-! ### Fitting (R18) -/

/-- A position whose settings and state agree on whether it is fitted takes nothing. -/
theorem takeFitting_agree {s : State} {p : Pos} (h : s.set.pos[p].fitted = s.fitted p) : s.takeFitting p = s := by
  unfold State.takeFitting
  rw [if_pos h, ite_self]

/-- A position driven takes nothing. -/
theorem takeFitting_inFlight {s : State} {p : Pos} (h : s.pos[p].state.inFlight = true) : s.takeFitting p = s := by
  unfold State.takeFitting
  rw [if_pos h]

/-! ### Drives (R8 to R11) -/

/-- An open drive of a closed position begins. -/
theorem startOpen_begun {s : State} {p : Pos} (h : s.pos[p].state = .closed) (o : Origin) (req : Option MasterIx) :
    pulseBegun s (s.startOpen p o req) p false o req := by
  have h2 : (s.updPos p fun r => { r with origin := some o, requester := req, openTimer := some s.set.pos[p].bfTime }).pos[p].state
      ≠ .openPulse := by
    rw [updPos_self]
    change s.pos[p].state ≠ _
    rw [h]
    decide
  obtain ⟨e1, e2, -, e4⟩ := setPosState_change h2 .commanded
  unfold State.startOpen
  refine ⟨?_, fun r hr => ?_, e2, ?_⟩
  · rw [e1, pos_set_self, updPos_self]
    rfl
  · rw [setPosState_other _ hr, updPos_other _ hr]
  · exact congrArg (fun x : State => { x with pos := s.pos }) e4

/-- A close drive of an open position begins. -/
theorem startClose_begun {s : State} {p : Pos} (h : s.pos[p].state = .opened) (o : Origin) (req : Option MasterIx) :
    pulseBegun s (s.startClose p o req) p true o req := by
  have h2 : (s.updPos p fun r => { r with origin := some o, requester := req, closeTimer := some s.set.pos[p].closeWidth }).pos[p].state
      ≠ .closePulse := by
    rw [updPos_self]
    change s.pos[p].state ≠ _
    rw [h]
    decide
  obtain ⟨e1, e2, -, e4⟩ := setPosState_change h2 .commanded
  unfold State.startClose
  refine ⟨?_, fun r hr => ?_, e2, ?_⟩
  · rw [e1, pos_set_self, updPos_self]
    rfl
  · rw [setPosState_other _ hr, updPos_other _ hr]
  · exact congrArg (fun x : State => { x with pos := s.pos }) e4

/-- A drive begun after the port of a request was noted is begun. -/
theorem begun_of_notePort {s v : State} {q : Req} {p : Pos} {c : Bool} {o : Origin} {req : Option MasterIx}
    (h : pulseBegun (s.notePort q) v p c o req) : pulseBegun s v p c o req := by
  obtain ⟨h1, h2, h3, h4⟩ := h
  obtain ⟨l, hl⟩ := notePort_link s q
  rw [hl] at h1 h2 h4
  exact ⟨h1, h2, h3, congrArg (fun x : State => { x with link := s.link }) h4⟩

/-- An open request of a closed position that no MAINTENANCE permit bars begins its drive. -/
theorem openRequest_starts {s : State} {p : Pos} {o : Origin} {req : Option MasterIx} (h : s.pos[p].state = .closed)
    (hm : s.maintRefuses p o req = false) : s.openRequest p o req = (.started, s.startOpen p o req) := by
  simp only [State.openRequest, h, hm, Bool.false_eq_true, if_false]

/-- A close request of an open position that passes its conditions begins its drive. -/
theorem closeRequest_starts {s : State} {p : Pos} {o : Origin} {req : Option MasterIx} (h : s.pos[p].state = .opened)
    (hc : s.closeRefused p o req = none) : s.closeRequest p o req = (.started, s.startClose p o req) := by
  simp only [State.closeRequest, h, hc]

/-- No permit bars a request of a master. -/
theorem maintRefuses_master (s : State) (p : Pos) (req : Option MasterIx) : s.maintRefuses p .master req = false := by
  unfold State.maintRefuses
  split <;> rfl

/-- The conditions of a close hold where no flag is set, the part is in RUN and no permit bars the origin. -/
theorem closeRefused_none {s : State} {p : Pos} {o : Origin} {req : Option MasterIx} (h1 : s.pos[p].tripLocked = false)
    (h2 : s.pos[p].bf = false) (h3 : s.modes.mode = .run) (h4 : s.maintRefuses p o req = false) : s.closeRefused p o req = none := by
  simp only [State.closeRefused, h1, h2, h3, h4, Bool.or_self, Bool.false_eq_true, ne_eq, not_true_eq_false, if_false]

/-! ### The stop-pending set (R110) -/

/-- A change of state that leaves the pulse of a stop-pending position: out of the set, and the stop trip against the state found. -/
theorem stopPendingChange_leaves {s : State} {p : Pos} {was : PosState} (h : p ∈ s.router.stopPending)
    (hw : was = .closePulse ∨ was = .openPulse) :
    s.stopPendingChange p was
      = State.tripPlain { s with router := { s.router with stopPending := s.router.stopPending.filter (· ≠ p) } } p .stop none :=
  if_pos ⟨h, by rcases hw with rfl | rfl <;> rfl⟩

/-- Any other change, and one of a position outside the set, leaves the router as it is. -/
theorem stopPendingChange_other {s : State} {p : Pos} {was : PosState}
    (h : p ∉ s.router.stopPending ∨ (was ≠ .closePulse ∧ was ≠ .openPulse)) : s.stopPendingChange p was = s := by
  refine if_neg fun hp => h.elim (· hp.1) fun hw => ?_
  revert hw
  cases was <;> simp_all [PosState.commandedPulse]

end Sys2Proof.Machine
end

