-- ==== Sys2Proof/Laws/Requests.lean ====
section
/-! SUPPORT. The shape of a request: when it is heard, what it answers; the end of a command on a calm state; and what the free orders
leave. -/

namespace Sys2Proof.Machine

/-! ### How a request is served (R36, R184, R185) -/

/-- A part that does not take requests, or a sender that is the part itself, changes nothing. -/
theorem serve_not_accepted {s : State} {q : Req} (h : s.accepts q = false) (ident : Nat) (f : MasterIx → State → Answer × State) :
    s.serve q ident f = s := by
  simp [State.serve, State.respond, h]

/-- A full reply queue sets the dropped flag of its port. -/
theorem serve_full {s : State} {q : Req} (h : s.accepts q = true) (hf : s.queueFull q = true) (ident : Nat)
    (f : MasterIx → State → Answer × State) :
    s.serve q ident f = (s.notePort q).updPort q.port fun r => { r with dropped := true } := by
  simp [State.serve, State.respond, h, hf]

/-- A sender that matches no master is answered ROLE. -/
theorem serve_unmatched {s : State} {q : Req} (h : s.accepts q = true) (hf : s.queueFull q = false) (hm : s.matchMaster q.sender = none)
    (ident : Nat) (f : MasterIx → State → Answer × State) :
    s.serve q ident f = (s.notePort q).queueReply ⟨q, ident⟩ { code := .role } := by
  simp [State.serve, State.respond, h, hf, State.matched, hm, State.answer]

/-- A request that is heard is answered with its own answer, on the state with its port noted. -/
theorem serve_of_hears {s : State} {q : Req} {m : MasterIx} (h : s.hears q m) (ident : Nat) (f : MasterIx → State → Answer × State) :
    s.serve q ident f = (f m (s.notePort q)).2.queueReply ⟨q, ident⟩ (f m (s.notePort q)).1 := by
  obtain ⟨h1, h2, h3⟩ := h
  simp [State.serve, State.respond, h1, h2, State.matched, h3]

/-- The outcome of a heard request whose own answer and state are known. -/
theorem serve_eq {s : State} {q : Req} {m : MasterIx} (h : s.hears q m) (ident : Nat) (f : MasterIx → State → Answer × State)
    {a : Answer} {u : State} (hf : f m (s.notePort q) = (a, u)) :
    (Host.Outcome.next (s.serve q ident f).finish : Host.Outcome State Fault Refusal) = .next (u.answered q ident a) := by
  rw [serve_of_hears h, hf]
  rfl

/-! ### The end of a command (log 4, log 5) -/

/-- No update asked for: nothing is settled. -/
theorem settleLock_of_none {s : State} (h : s.lockAsk = false) : s.settleLock = s := by
  simp [State.settleLock, h]

/-- What a command leaves calm is what it ends with. -/
theorem finish_calm {s : State} (h1 : s.inbox = []) (h2 : s.lockAsk = false) : s.finish = s := by
  unfold State.finish
  rw [settleLock_of_none h2, drain_of_empty _ h1]

theorem answered_base (s : State) (q : Req) (n : Nat) (a : Answer) : (s.answered q n a).base = s.base := finish_base _

theorem answered_meas (s : State) (q : Req) (n : Nat) (a : Answer) : (s.answered q n a).meas = s.meas := finish_meas _

theorem answered_pending (s : State) (q : Req) (n : Nat) (a : Answer) : (s.answered q n a).pending = s.pending := finish_pending _

/-! ### Reading the operands -/

theorem posOf_val (p : Pos) : posOf p.val = some p := by simp [posOf, finOf, p.isLt]

theorem secOf_code (x : BusSec) : secOf (if x = .a then 0 else 1) = some x := by cases x <;> rfl

theorem combineOf_code (c : CombineMode) : combineOf c.code = some c := by cases c <;> rfl

/-- The checks of a requester that holds the position pass in RUN where the position is at rest. -/
theorem checkRequester_none {s : State} {m : MasterIx} {p : Pos} (h1 : s.modes.mode = .run) (h2 : s.roleOf m ≠ .view)
    (h3 : s.pos[p].state = .opened ∨ s.pos[p].state = .closed) : s.checkRequester m p true = none := by
  have hp : s.checkPosition p = none := by
    rcases h3 with h3 | h3 <;> simp only [State.checkPosition, h3]
  simp [State.checkRequester, firstRefusal, require, h1, h2, hp]

/-! ### Free orders (log 3) -/

/-- A free choice among some is one of them. -/
theorem choose_lt (s : State) {k : Nat} (h : 0 < k) : (s.choose k).1 < k := by
  unfold State.choose
  split
  · exact h
  · split <;> exact Nat.mod_lt _ h

/-- A list is any of its entries before what is left without it. -/
theorem taken_perm {α : Type} (xs : List α) {i : Nat} (h : i < xs.length) : (xs[i] :: xs.eraseIdx i).Perm xs := by
  induction xs generalizing i with
  | nil => exact absurd h (Nat.not_lt_zero _)
  | cons x xs ih =>
    cases i with
    | zero => exact .refl _
    | succ i => exact (List.Perm.swap _ _ _).trans ((ih (Nat.lt_of_succ_lt_succ h)).cons x)

/-- The candidates in a freely chosen order are the candidates. -/
theorem permute_perm {α : Type} (n : Nat) (xs : List α) (s : State) : (State.permute n xs s).1.Perm xs := by
  induction n generalizing xs s with
  | zero => exact .refl _
  | succ n ih =>
    unfold State.permute
    dsimp only
    split
    · exact .refl _
    · rename_i x hx
      obtain ⟨hlt, rfl⟩ := List.getElem?_eq_some_iff.1 hx
      exact ((ih _ _).cons _).trans (taken_perm xs hlt)

/-- Nothing is lost and nothing added by a free order. -/
theorem anyOrder_perm {α : Type} (s : State) (xs : List α) : (s.anyOrder xs).1.Perm xs := permute_perm _ _ _

/-- A list grown to at most eight. -/
theorem pushBounded_length {α : Type} {xs : List α} (h : xs.length ≤ 8) (x : α) : (pushBounded xs x).length ≤ 8 := by
  unfold pushBounded
  split <;> simp only [List.length_append, List.length_drop, List.length_singleton] <;> omega

end Sys2Proof.Machine
end

