-- ==== Sys2Proof/WellFormed.lean ====
section
/-! DEFINITION. Which commands are well formed: every number fits the field that carries it on the wire (R192, R193), so a
well-formed command is one that can be sent. A field may still be out of the range its rule allows: that is answered
RANGE by the meaning, and is not a matter of form. -/

namespace Sys2Proof

/-- The number fits one byte. -/
def fitsByte (n : Nat) : Bool := n < 256

/-- The number fits two bytes. -/
def fitsWord (n : Nat) : Bool := n < 65536

/-- The sender of a frame is a node number, 0 to 31, in five bits (Table 11.7). -/
def Req.wellFormed (q : Req) : Bool := q.sender < 32

/-- A plan cell holds a kind and an operand in half a byte each and a time in two bytes (Table 11.11). -/
def RawStep.wellFormed (r : RawStep) : Bool := r.kind < 16 && r.operand < 16 && fitsWord r.time

/-- The payload of a PLAN_WRITE carries the slot in three bits, the start index in four, and at most three cells. -/
def planFieldsFit (slot start : Nat) : Bool := slot < 8 && start < 16

/-- The command can be sent: every field fits the place the formats give it. -/
def Instr.wellFormed : Instr → Bool
  | .powerOnReset | .warmReset | .warmResetEnd | .lossOfPower => true
  | .contactChange _ _ _ | .travelTimerExpiry _ | .discrepancyTimerExpiry _ | .recoveryTimerExpiry _
  | .closeTimerExpiry _ | .openTimerExpiry _ => true
  | .measurementDataFrame bytes => decide (bytes.length ≤ 11)
  | .endOfRound bytes => decide (bytes.length ≤ 11)
  | .roundTimerExpiry | .measLostEntry _ => true
  | .elementOperate p e => e != .reversePower || (decide (5 ≤ p.val) && decide (p.val ≤ 10))
  | .zoneHoldExpiry _ | .lockWordProgramComplete | .bfTimerExpiry _ | .upstreamLineTimerExpiry _
  | .stopAsserted | .stopReleased | .leaseExpiry _ | .waitTimerExpiry _ => true
  | .permitReq q _ kind _ waitTime => q.wellFormed && fitsByte kind && fitsByte waitTime
  | .permitRelease q _ _ => q.wellFormed
  | .permitRenew q _ => q.wellFormed
  | .layerWrite q layer first entries =>
      q.wellFormed && layer < 2 && first < 32 && decide (entries.length ≤ 16)
        && entries.all (fun e => e.1 < 4 && e.2 < 4)
  | .layerCommit q layer => q.wellFormed && fitsByte layer
  | .layerAbandon q layer => q.wellFormed && fitsByte layer
  | .layerRead q layer copy first count part =>
      q.wellFormed && fitsByte layer && fitsByte copy && fitsByte first && fitsByte count && fitsByte part
  | .setCombine q mode => q.wellFormed && fitsByte mode
  | .openCmd q pos => q.wellFormed && fitsByte pos
  | .closeCmd q pos => q.wellFormed && fitsByte pos
  | .closeSync q pos mode => q.wellFormed && fitsByte pos && fitsByte mode
  | .resetTrip q pos => q.wellFormed && fitsByte pos
  | .unshed q pos => q.wellFormed && fitsByte pos
  | .overlapTimerExpiry _ => true
  | .groupSwitch q _ marked unmarked => q.wellFormed && fitsByte marked && fitsByte unmarked
  | .deadTimerExpiry => true
  | .groupForce q sec choice => q.wellFormed && fitsByte sec && fitsByte choice
  | .recordRead q offset part => q.wellFormed && fitsByte offset && fitsByte part
  | .recordRelease q seq => q.wellFormed && fitsWord seq
  | .stabilityProved _ | .lossTimerExpiry _ => true
  | .autoTransfer q enable => q.wellFormed && fitsByte enable
  | .planWrite q slot start steps =>
      q.wellFormed && planFieldsFit slot start && decide (steps.length ≤ 3) && steps.all RawStep.wellFormed
  | .planClear q slot => q.wellFormed && fitsByte slot
  | .planRead q slot start count part =>
      q.wellFormed && fitsByte slot && fitsByte start && fitsByte count && fitsByte part
  | .planStart q slot => q.wellFormed && fitsByte slot
  | .pollTimerExpiry | .stepTimerExpiry | .deadTimeMarkExpiry _ => true
  | .planResume q => q.wellFormed
  | .planAbandon q => q.wellFormed
  | .zeroCrossingEdge _ sub => decide (sub < 100)
  | .windowConfirmed | .edgeSupervisionExpiry _ | .attemptTimerExpiry | .periodTimerExpiry | .onTimerExpiry _ => true
  | .syncStepLatch q pos => q.wellFormed && fitsByte pos
  | .syncStepClose q pos => q.wellFormed && fitsByte pos
  | .syncCancel q pos => q.wellFormed && fitsByte pos
  | .genAdmit q gen mode => q.wellFormed && fitsByte gen && fitsByte mode
  | .genWithdraw q gen => q.wellFormed && fitsByte gen
  | .generatorLockout _ => true
  | .clearLockout q gen => q.wellFormed && fitsByte gen
  | .readmitComplete _ | .fitCountRestore | .spacingTimerExpiry => true
  | .stationFrameReceived _ bytes => decide (bytes.length ≤ 21)
  | .linkIdleOffer _ | .arbitrationLost _ | .transmitError _ | .frameSentCleanly _ => true
  | .readNotices q => q.wellFormed
  | .beaconTimerExpiry => true
  | .readRecord q item index part => q.wellFormed && fitsByte item && fitsByte index && fitsByte part
  | .settingWrite q row place index value =>
      q.wellFormed && fitsByte row && fitsByte place && decide (index.length ≤ 3) && index.all fitsByte
        && decide (value < 2 ^ 48)
  | .settingRead q row place index part =>
      q.wellFormed && fitsByte row && fitsByte place && decide (index.length ≤ 3) && index.all fitsByte && fitsByte part
  | .save q => q.wellFormed
  | .saveComplete => true
  | .setGuard q level => q.wellFormed && fitsByte level
  | .hold q => q.wellFormed
  | .run q => q.wellFormed
  | .settleComplete => true

end Sys2Proof
end

