-- ==== Sys2Proof/Tests/Slice0.lean ====
section
/-! SUPPORT. Checks of the model's own: the well-formedness smoke, tables of the manual, and for each statement of
Obligations.lean a state that meets its hypotheses, with what the command does there. -/

namespace Sys2Proof.Tests

open Sys2Proof.Machine

set_option Elab.async false

/-! ### Helpers -/

/-- A part in RUN as node 5, with the master table of the defaults and GEN_1 at node 3. -/
def part : State :=
  { State.reset with
    base := { State.reset.base with settingsInvalid := false, node := 5, straps := 5 }
    modes := { mode := .run, cause := .request }
    set := { Settings.builtIn with masters := defaultMasters.set 3 ⟨some 3, .gen 0, 0xFFF⟩ } }

/-- The part in HOLD. -/
def held : State := { part with modes := { mode := .hold, cause := .request } }

/-- A request from a node on SL0. -/
def sent (node : Nat) : Req := ⟨0, node, 0x2A⟩

/-- The state after a command. -/
def next (c : Instr) (s : State) : State :=
  match exec c s with
  | .next t => t
  | _ => s

/-- The state with one position record. -/
def put (s : State) (p : Pos) (r : PosRec) : State := { s with pos := s.pos.set p r, feeds := feedsOf (s.pos.set p r) }

/-- A position closed, and one open. -/
def shut : PosRec := { state := .closed, feedback := .closed }

def free : PosRec := { state := .opened, feedback := .opened }

/-- A permit given. -/
def permit (s : State) (p : Pos) (v : Permit) : State := { s with auth := { s.auth with permits := s.auth.permits.set p (some v) } }

/-- OPERATE permits of master 0 on a position. -/
def mine (s : State) (p : Pos) : State := permit s p (.operate 0 (some 1000))

/-- Every close entry of both layers PERMIT. -/
def opened (s : State) : State :=
  let c : Layer := { committed := { close := Vector.replicate 23 .permit, opn := Vector.replicate 23 .permit } }
  { s with inter := { s.inter with layerA := c, layerB := c } }

/-- A voltage channel present with a value. -/
def volts (s : State) (c : Chan) (v : Nat) (f : Option Nat) : State :=
  { s with meas := { s.meas with chans := s.meas.chans.set c ⟨.present, 0, some (.voltage v f, 0)⟩ } }

/-- The reply codes waiting on SL0. -/
def codes (s : State) : List (List Byte) := s.link.ports[(0 : PortIx)].replies.map fun r => r.payload.take 1

/-- Every free choice taken as the first candidate. -/
def scripted (s : State) : State := { s with choices := List.replicate 99 0 }

/-! ### Well-formed commands: an ill-formed term for each check -/

theorem test_wf_sender : (Instr.save ⟨0, 32, 0⟩).wellFormed = false := by decide

theorem test_wf_dataFrame : (Instr.measurementDataFrame (List.replicate 12 0)).wellFormed = false := by decide

theorem test_wf_marker : (Instr.endOfRound (List.replicate 12 0)).wellFormed = false := by decide

theorem test_wf_element : (Instr.elementOperate 4 .reversePower).wellFormed = false
    ∧ (Instr.elementOperate 11 .reversePower).wellFormed = false := by decide

theorem test_wf_permitReq : (Instr.permitReq (sent 1) 1 256 false 0).wellFormed = false
    ∧ (Instr.permitReq (sent 1) 1 0 true 256).wellFormed = false := by decide

theorem test_wf_permitOthers : (Instr.permitRelease (sent 32) 1 false).wellFormed = false
    ∧ (Instr.permitRenew (sent 32) 1).wellFormed = false := by decide

theorem test_wf_layerWrite : (Instr.layerWrite (sent 1) 2 0 []).wellFormed = false
    ∧ (Instr.layerWrite (sent 1) 0 32 []).wellFormed = false
    ∧ (Instr.layerWrite (sent 1) 0 0 (List.replicate 17 (0, 0))).wellFormed = false
    ∧ (Instr.layerWrite (sent 1) 0 0 [(4, 0)]).wellFormed = false
    ∧ (Instr.layerWrite (sent 1) 0 0 [(0, 4)]).wellFormed = false := by decide

theorem test_wf_layerOthers : (Instr.layerCommit (sent 1) 256).wellFormed = false
    ∧ (Instr.layerAbandon (sent 1) 256).wellFormed = false ∧ (Instr.layerRead (sent 1) 256 0 0 0 0).wellFormed = false
    ∧ (Instr.layerRead (sent 1) 0 256 0 0 0).wellFormed = false ∧ (Instr.layerRead (sent 1) 0 0 256 0 0).wellFormed = false
    ∧ (Instr.layerRead (sent 1) 0 0 0 256 0).wellFormed = false ∧ (Instr.layerRead (sent 1) 0 0 0 0 256).wellFormed = false
    ∧ (Instr.setCombine (sent 1) 256).wellFormed = false := by decide

theorem test_wf_switching : (Instr.openCmd (sent 1) 256).wellFormed = false ∧ (Instr.closeCmd (sent 1) 256).wellFormed = false
    ∧ (Instr.closeSync (sent 1) 256 0).wellFormed = false ∧ (Instr.closeSync (sent 1) 0 256).wellFormed = false
    ∧ (Instr.resetTrip (sent 1) 256).wellFormed = false ∧ (Instr.unshed (sent 1) 256).wellFormed = false
    ∧ (Instr.groupSwitch (sent 1) 1 256 0).wellFormed = false ∧ (Instr.groupSwitch (sent 1) 1 0 256).wellFormed = false
    ∧ (Instr.groupForce (sent 1) 256 0).wellFormed = false ∧ (Instr.groupForce (sent 1) 0 256).wellFormed = false := by decide

theorem test_wf_records : (Instr.recordRead (sent 1) 256 0).wellFormed = false ∧ (Instr.recordRead (sent 1) 0 256).wellFormed = false
    ∧ (Instr.recordRelease (sent 1) 65536).wellFormed = false ∧ (Instr.readRecord (sent 1) 256 0 0).wellFormed = false
    ∧ (Instr.readRecord (sent 1) 0 256 0).wellFormed = false ∧ (Instr.readRecord (sent 1) 0 0 256).wellFormed = false
    ∧ (Instr.readNotices (sent 32)).wellFormed = false := by decide

theorem test_wf_plans : (Instr.autoTransfer (sent 1) 256).wellFormed = false ∧ (Instr.planWrite (sent 1) 8 0 []).wellFormed = false
    ∧ (Instr.planWrite (sent 1) 0 16 []).wellFormed = false
    ∧ (Instr.planWrite (sent 1) 0 0 (List.replicate 4 ⟨8, 0, 0⟩)).wellFormed = false
    ∧ (Instr.planWrite (sent 1) 0 0 [⟨16, 0, 0⟩]).wellFormed = false ∧ (Instr.planWrite (sent 1) 0 0 [⟨1, 16, 0⟩]).wellFormed = false
    ∧ (Instr.planWrite (sent 1) 0 0 [⟨7, 0, 65536⟩]).wellFormed = false ∧ (Instr.planClear (sent 1) 256).wellFormed = false
    ∧ (Instr.planRead (sent 1) 256 0 0 0).wellFormed = false ∧ (Instr.planRead (sent 1) 0 256 0 0).wellFormed = false
    ∧ (Instr.planRead (sent 1) 0 0 256 0).wellFormed = false ∧ (Instr.planRead (sent 1) 0 0 0 256).wellFormed = false
    ∧ (Instr.planStart (sent 1) 256).wellFormed = false ∧ (Instr.planResume (sent 32)).wellFormed = false
    ∧ (Instr.planAbandon (sent 32)).wellFormed = false := by decide

theorem test_wf_sync : (Instr.zeroCrossingEdge .zua 100).wellFormed = false ∧ (Instr.syncStepLatch (sent 1) 256).wellFormed = false
    ∧ (Instr.syncStepClose (sent 1) 256).wellFormed = false ∧ (Instr.syncCancel (sent 1) 256).wellFormed = false
    ∧ (Instr.genAdmit (sent 1) 256 0).wellFormed = false ∧ (Instr.genAdmit (sent 1) 0 256).wellFormed = false
    ∧ (Instr.genWithdraw (sent 1) 256).wellFormed = false ∧ (Instr.clearLockout (sent 1) 256).wellFormed = false := by decide

theorem test_wf_link : (Instr.stationFrameReceived 0 (List.replicate 22 0)).wellFormed = false := by decide

theorem test_wf_settings : (Instr.settingWrite (sent 1) 256 0 [] 0).wellFormed = false
    ∧ (Instr.settingWrite (sent 1) 0 256 [] 0).wellFormed = false ∧ (Instr.settingWrite (sent 1) 0 0 [0, 0, 0, 0] 0).wellFormed = false
    ∧ (Instr.settingWrite (sent 1) 0 0 [256] 0).wellFormed = false
    ∧ (Instr.settingWrite (sent 1) 15 0 [] (2 ^ 48)).wellFormed = false ∧ (Instr.settingRead (sent 1) 256 0 [] 0).wellFormed = false
    ∧ (Instr.settingRead (sent 1) 0 256 [] 0).wellFormed = false ∧ (Instr.settingRead (sent 1) 0 0 [0, 0, 0, 0] 0).wellFormed = false
    ∧ (Instr.settingRead (sent 1) 0 0 [256] 0).wellFormed = false ∧ (Instr.settingRead (sent 1) 0 0 [0] 256).wellFormed = false
    ∧ (Instr.setGuard (sent 1) 256).wellFormed = false ∧ (Instr.hold (sent 32)).wellFormed = false
    ∧ (Instr.run (sent 32)).wellFormed = false ∧ (Instr.save (sent 32)).wellFormed = false := by decide

theorem test_wf_others : (Instr.lossOfPower).wellFormed = true ∧ (Instr.settingWrite (sent 31) 15 0 [] 1).wellFormed = true
    ∧ (Instr.zeroCrossingEdge .zua 99).wellFormed = true := by decide

/-! ### Tables of the manual -/

/-- The cyclic check of the nine digits is the check value of its polynomial and start (R192). -/
theorem test_crc : crc [0x31, 0x32, 0x33, 0x34, 0x35, 0x36, 0x37, 0x38, 0x39] = 0x29B1#16 := by decide +kernel

/-- QA and QT closed: both sections are fed from UA; with QNB closed as well so is N (R19). -/
theorem test_feeds : feedSets (fun p => p == 0 || p == 2) false = ⟨{ ua := true }, { ua := true }, {}⟩
    ∧ feedSets (fun p => p == 0 || p == 2 || p == 4) true
      = ⟨{ ua := true, gb := true }, { ua := true, gb := true }, { ua := true, gb := true }⟩ := by decide

/-- Table 4.5, the rows with DEFER in L_A. -/
theorem test_combined :
    ([LayerEntry.permit, .defer, .block].map fun b =>
      [CombineMode.aOnly, .bOnly, .both, .either, .aOverB].map fun m => combinedPermit m .defer b)
      = [[false, true, true, true, true], [false, false, false, false, false], [false, false, false, false, false]] := by decide

/-- A voltage frame for V0, 1.000 pu at 50.00 Hz, and a marker (Table 11.10). -/
theorem test_measFrames : parseMeas (withCheck [0, 23, 0x03, 0xE8, 0x13, 0x88]) = some (.data 23 (.voltage 1000 (some 5000)))
    ∧ parseMeas (withCheck [1]) = some .marker ∧ parseMeas (withCheck [0, 34, 0, 0, 0, 0]) = none
    ∧ parseMeas (withCheck [0, 5, 0, 0, 0, 0]) = none ∧ parseMeas [1, 0, 0] = none := by decide +kernel

/-- A request frame OPEN of position 11 from node 1 to node 5 is read back, and with a changed byte it is not. -/
theorem test_frames : parseFrame (RawFrame.bytes ⟨1, 1, 5, 1, 0, 11, 0x2A, [11]⟩) = some ⟨1, 1, 5, 1, 0, 11, 0x2A, [11]⟩
    ∧ parseFrame ((RawFrame.bytes ⟨1, 1, 5, 1, 0, 11, 0x2A, [11]⟩).set 4 12) = none := by decide +kernel

/-- The defaults, read as they are sent: node 1 STATION_A with every class, the ladder, a close width (R193, Table 12.1). -/
theorem test_settingsRead : keyOf 16 0 [0] = some (.master 0) ∧ Settings.builtIn.get (.master 0) = 0x01000FFF
    ∧ Settings.builtIn.get .ladder = 0x0123456789AB ∧ keyOf 1 0 [22] = some (.closeWidth 22)
    ∧ Settings.builtIn.get (.closeWidth 22) = 150 ∧ keyOf 2 0 [10] = none ∧ keyOf 18 1 [] = none := by decide +kernel

/-! ### Resets and the step -/

/-- Power-on of the part of State.reset gives State.reset. -/
theorem test_powerOnReset : State.reset.powerOnReset.finish = State.reset := by decide +kernel

theorem test_lossThenPower : (next .powerOnReset (next .lossOfPower part)).base.node = 5
    ∧ (next .lossOfPower part).base.phase = .off ∧ (next .powerOnReset (next .lossOfPower part)).modes.mode = .hold := by
  decide +kernel

theorem test_warmReset : part.base.phase = .running ∧ (next .warmReset part).base.phase = .warmReset
    ∧ (next .warmResetEnd (next .warmReset part)).base.phase = .running
    ∧ (next .warmResetEnd (next .warmReset part)).modes = ⟨.hold, .warmReset, 0⟩ := by decide +kernel

/-- QA, QB and QT found closed at a reset sample: the join of the two utilities is formed, and everything else of the blocks afresh. -/
def joinedContacts : State :=
  { part with base := { part.base with contacts := ((part.base.contacts.set 0 (true, false)).set 1 (true, false)).set 2 (true, false) } }

/-- What shows a state to be sampled with the utilities' join alone, recorded with QT. -/
theorem sampledBlocks_utilities (v : State)
    (h : v.feeds = feedsOf v.pos ∧ v.feeds.joined .uaUb = true ∧ v.feeds.joined .uaGb = false ∧ v.feeds.joined .ubGb = false
      ∧ v.inter.joins = { uaUb := some ⟨2, some v.set.overlapTime⟩ } ∧ v.pos[2].state.connecting = true
      ∧ v.prot = { recs := Vector.ofFn fun p => { active := computedGroup .auto .auto v.feeds p } }) : sampledBlocks v := by
  obtain ⟨h1, h2, h3, h4, h5, h6, h7⟩ := h
  unfold sampledBlocks
  rw [h5, h7]
  refine ⟨h1, fun j hj => ?_, fun j hj => ?_, rfl, rfl, rfl, rfl, fun p => ?_⟩
  · cases j <;> first | rfl | (rw [h2] at hj; cases hj)
  · cases j
    · exact ⟨2, by decide, h6, fun q hq _ => (by decide : ∀ q ∈ ([2, 3, 4] : List Pos), 2 ≤ q.val) q hq, rfl⟩
    · rw [h3] at hj; cases hj
    · rw [h4] at hj; cases hj
  · simp

theorem test_sampledBlocks :
    sampledBlocks (next .warmReset joinedContacts) ∧ sampledBlocks (next .warmResetEnd (next .warmReset joinedContacts))
    ∧ sampledBlocks (next .powerOnReset joinedContacts) ∧ (next .warmReset joinedContacts).feeds.joined .uaUb = true
    ∧ freshStation (next .warmReset joinedContacts).link 0 none ∧ freshStation (next .powerOnReset joinedContacts).link 0 (some 100)
    ∧ (next .warmReset joinedContacts).inter.joins.uaUb = some ⟨2, some 200⟩ := by
  unfold freshStation
  exact ⟨sampledBlocks_utilities _ (by decide +kernel), sampledBlocks_utilities _ (by decide +kernel),
    sampledBlocks_utilities _ (by decide +kernel), by decide +kernel⟩

theorem test_idleStep : part.pending = [] ∧ part.calm ∧ part.base.phase ≠ .off ∧ part.tick.base.timeBase = 1
    ∧ (next .lossOfPower part).base.phase = .off ∧ (next .lossOfPower part).tick = next .lossOfPower part := by decide +kernel

/-! ### Section 1 -/

def locked : State := put part 11 { free with tripLocked := true }

/-- The conditions of a pulse: each clause of PulseConditionsInOrder at one state. -/
theorem test_pulseConditions :
    locked.pos[11].state = .opened ∧ (locked.closeRequest 11 .master (some 0)).1 = .refused .tripLocked
    ∧ held.pos[11].state = .opened ∧ held.modes.mode ≠ .run ∧ (held.closeRequest 11 .master (some 0)).1 = .refused .hold
    ∧ ((permit part 11 (.maintenance 2)).closeRequest 11 .ledger none).1 = .refused .maint
    ∧ (part.closeRequest 11 .master (some 0)).1 = .started
    ∧ ((permit (put part 11 shut) 11 (.maintenance 2)).openRequest 11 .engine none).1 = .refused .maint
    ∧ ((put part 11 shut).openRequest 11 .master (some 0)).1 = .started
    ∧ ((put part 11 shut).closeRequest 11 .master (some 0)).1 = .atOnce ∧ (part.openRequest 11 .master (some 0)).1 = .atOnce := by
  decide +kernel

def closing : State :=
  put part 2 { free with state := .closePulse, origin := some .master, requester := some 0, closeTimer := some 0 }

def opening : State :=
  put part 2 { shut with state := .openPulse, origin := some .engine, openTimer := some 0 }

/-- A contact change that shows the close done, and one of an unfitted position. -/
theorem test_contactChange :
    closing.base.phase = .running ∧ closing.fitted 2 = true ∧ closing.set.pos[2].fitted = true
    ∧ decodeContacts true false ≠ closing.pos[2].feedback ∧ (next (.contactChange 2 true false) closing).pos[2].state = .closed
    ∧ (next (.contactChange 2 true false) closing).pos[2].lastOutcome = some (.closedDone, .master)
    ∧ (put part 2 { free with state := .unfitted }).fitted 2 = false
    ∧ (next (.contactChange 2 true false) (put part 2 { free with state := .unfitted })).base.contacts[2] = (true, false)
    ∧ part.pos[2].state = .opened ∧ (next (.contactChange 2 true false) part).pos[2].lastKind = .uncommandedClose
    ∧ (next (.contactChange 2 false true) (put part 2 shut)).pos[2].lastKind = .uncommandedOpen := by decide +kernel

def tripping0 : State :=
  { put part 2 { shut with state := .tripPulse, origin := some .trip } with
    router := { part.router with active := part.router.active.set 2 (some { cause := .iInst, record := some 0, timer := some 9 }) } }

/-- A position whose trip of record 0 is in progress. -/
def recorded : State :=
  { tripping0 with router := { tripping0.router with ring := [⟨0, 0, 2, .iInst, none, .g1, {}, none, [], .opened⟩] } }

/-- What a contact change starts and stops: the travel and discrepancy timers, the recovery timer, and the outcome of a cleared trip. -/
theorem test_contactTimers :
    (next (.contactChange 2 false false) (put part 2 shut)).pos[2].travelTimer = some part.set.pos[2].travelLimit
    ∧ (next (.contactChange 2 false false) (put part 2 { shut with feedback := .discrepancy, travelTimer := some 3 })).pos[2].travelTimer = some 3
    ∧ (next (.contactChange 2 true true) (put part 2 shut)).pos[2].discTimer = some 30
    ∧ (next (.contactChange 2 true false) (put part 2 { shut with feedback := .discrepancy, discTimer := some 3 })).pos[2].discTimer = none
    ∧ (next (.contactChange 2 true false) (put part 2 { free with state := .faulty, feedback := .travelling })).pos[2].recTimer = some 100
    ∧ (next (.contactChange 2 false false) (put part 2 { free with state := .faulty, recTimer := some 9 })).pos[2].recTimer = none
    ∧ (next (.contactChange 2 false true) recorded).pos[2].lastOutcome = some (.openedDone, .trip)
    ∧ (next (.contactChange 2 false true) recorded).router.ring.map (·.outcome) = [.cleared 0]
    ∧ (next (.contactChange 2 false true) recorded).router.active[2] = none
    ∧ (next (.contactChange 2 false true) opening).pos[2].lastOutcome = some (.openedDone, .engine) := by decide +kernel

/-- The supervision, recovery, close and open timers, each run out where it runs. -/
theorem test_supervision :
    (next (.travelTimerExpiry 2) (put part 2 { closing.pos[2] with travelTimer := some 0 })).pos[2].lastKind = .travelFault
    ∧ (next (.travelTimerExpiry 2) (put part 2 { closing.pos[2] with travelTimer := some 0 })).pos[2].lastOutcome
      = some (.closeFail, .master)
    ∧ (next (.discrepancyTimerExpiry 2) (put part 2 { opening.pos[2] with discTimer := some 0 })).pos[2].lastOutcome
      = some (.openFail, .engine)
    ∧ (next (.discrepancyTimerExpiry 2) (put part 2 { opening.pos[2] with discTimer := some 0 })).pos[2].state = .faulty
    ∧ (next (.recoveryTimerExpiry 2) (put part 2 { shut with state := .faulty, recTimer := some 0 })).pos[2].state = .closed
    ∧ (next (.closeTimerExpiry 2) closing).pos[2].state = .opened
    ∧ (next (.openTimerExpiry 2) opening).pos[2].lastKind = .openFail := by decide +kernel

def unfitting : State := { closing with set := { closing.set with pos := closing.set.pos.set 2 { fitted := false } } }

theorem test_fittingWaits : unfitting.set.pos[2].fitted = false ∧ unfitting.takeFitting 2 = unfitting
    ∧ (next (.closeTimerExpiry 2) unfitting).pos[2].state = .unfitted := by decide +kernel

def ready11 (e : ElemRec) : State :=
  { part with prot := { part.prot with recs := part.prot.recs.set 11 ({ inst := e, time := e, ground := e, rev := e } : ProtRec) } }

def unfit (s : State) (p : Pos) : State := { s with set := { s.set with pos := s.set.pos.set p { fitted := false } } }

/-- The fitted flag taken at rest: cleared, set again, and unchanged. -/
theorem test_fittingAtRest :
    ((unfit part 11).takeFitting 11).pos[11].state = .unfitted ∧ ((unfit part 11).takeFitting 11).pos[11].lastKind = .fitting
    ∧ ((unfit (ready11 { pickup := true, count := 9 }) 11).takeFitting 11).prot.recs[11].time = {}
    ∧ ((put part 11 { free with state := .unfitted }).takeFitting 11).pos[11].state
      = (decodeContacts part.base.contacts[11].1 part.base.contacts[11].2).restState
    ∧ part.takeFitting 11 = part ∧ (unfit part 11).pos[11].state.inFlight = false ∧ (unfit part 11).fitted 11 = true
    ∧ (put part 11 { free with state := .unfitted }).fitted 11 = false := by decide +kernel

/-! ### Section 2 -/

def filled : State := { part with meas := { part.meas with slots := part.meas.slots.set 23 (some (.voltage 1000 (some 5000))) } }

theorem test_dataFrame :
    (next (.measurementDataFrame (withCheck [0, 23, 0x03, 0xE8, 0x13, 0x88])) part).meas = filled.meas
    ∧ next (.measurementDataFrame [0, 1]) part = part := by decide +kernel

/-- A measurement frame at the ends of its ranges: saturation, an absent frequency, the power direction, and the discarded forms. -/
theorem test_parseMeas :
    parseMeas (withCheck [0, 4, 0x0F, 0xA0, 0xFF, 0xFF]) = some (.data 4 (.current 4000 4000))
    ∧ parseMeas (withCheck [0, 22, 0x0F, 0x9F, 0, 0]) = some (.data 22 (.current 3999 0))
    ∧ parseMeas (withCheck [0, 23, 0x05, 0xDD, 0x0F, 0xA0]) = some (.data 23 (.voltage 1500 (some 4000)))
    ∧ parseMeas (withCheck [0, 33, 0x05, 0xDC, 0x1B, 0x58]) = some (.data 33 (.voltage 1500 (some 7000)))
    ∧ parseMeas (withCheck [0, 33, 0, 0, 0x0F, 0x9F]) = some (.data 33 (.voltage 0 none))
    ∧ parseMeas (withCheck [0, 33, 0, 0, 0x1B, 0x59]) = some (.data 33 (.voltage 0 none))
    ∧ parseMeas (withCheck [0, 5, 0, 1, 0, 2, 0, 1, 0xF5]) = some (.data 5 (.genCurrent 1 2 false 500))
    ∧ parseMeas (withCheck [0, 10, 0, 1, 0, 2, 1, 0, 3]) = some (.data 10 (.genCurrent 1 2 true 3))
    ∧ parseMeas (withCheck [0, 10, 0, 1, 0, 2, 2, 0, 3]) = none ∧ parseMeas (withCheck [0, 11, 0, 1, 0, 2, 1, 0, 3]) = none
    ∧ parseMeas (withCheck [1, 0]) = none ∧ parseMeas (withCheck [2]) = none ∧ parseMeas [] = none := by decide +kernel

/-- A marker on a held frame, a marker on none, and the round timer. -/
theorem test_boundary :
    (next (.endOfRound (withCheck [1])) (scripted filled)).meas.chans[23] = ⟨.present, 0, some (.voltage 1000 (some 5000), 0)⟩
    ∧ (next (.endOfRound (withCheck [1])) (scripted filled)).meas.chans[0] = ⟨.notYetSeen, 1, none⟩
    ∧ next (.endOfRound (withCheck [1])) part = part
    ∧ (next .roundTimerExpiry (scripted { part with meas := { part.meas with roundTimer := some 0 } })).meas.roundTimer
      = some 25 := by decide +kernel

theorem test_measLost :
    (next (.measLostEntry 7) { part with meas := { part.meas with chans := part.meas.chans.set 7 ⟨.absent, 3, none⟩ } }).meas.chans[7]
      = ⟨.measLost, 3, none⟩ := by decide +kernel

/-- What MEAS_LOST_ENTRY hands on: the elements of a position, or the monitor of a utility or of bus N. -/
theorem test_measLostHanded :
    (let s := { ready11 { pickup := true } with meas := { part.meas with chans := part.meas.chans.set 11 ⟨.absent, 3, none⟩ } }
     (next (.measLostEntry 11) s).prot.recs[11].frozen = true ∧ (next (.measLostEntry 11) s).prot.recs[11].time.pickup = false)
    ∧ ([22, 23, 24, 25, 26, 27, 28, 33] : List Chan).map (fun c =>
        ({ part with meas := { part.meas with chans := part.meas.chans.set c ⟨.absent, 3, none⟩ } }.measLostEntry c).inbox)
      = [[.lostProtection 22], [.lostMonitor .ua], [.lostMonitor .ub], [], [], [.lostMonitor .gb], [], []] := by decide +kernel

theorem test_duration : duration 5 0xFFFFFFFB = 10 := by decide

/-! ### Section 3 -/

theorem test_hears : part.hears (sent 1) 0 ∧ part.hears (sent 2) 1 ∧ part.hears (sent 30) 2 ∧ part.hears (sent 3) 3 := by
  decide +kernel

/-- A request nobody sent, one to a full queue, and one from a node of no entry. -/
theorem test_requests :
    part.accepts (sent 5) = false ∧ next (.save (sent 5)) part = part
    ∧ codes (next (.save (sent 9)) part) = [[4]]
    ∧ (let full := { part with link := { part.link with ports := part.link.ports.set 0 ({ replies := List.replicate 8 ⟨1, 0, 1, []⟩ } : PortRec) } }
       full.accepts (sent 1) = true ∧ full.queueFull (sent 1) = true
        ∧ (next (.save (sent 1)) full).link.ports[(0 : PortIx)].dropped = true) := by decide +kernel

theorem test_permitReq :
    (next (.permitReq (sent 1) 0x000005 0 false 0) part).auth.permits[2] = some (.operate 0 (some 30000))
    ∧ (next (.permitReq (sent 3) 0x000020 0 false 0) part).auth.permits[5] = some (.operate 3 (some 30000))
    ∧ codes (next (.permitReq (sent 3) 0x000040 0 false 0) part) = [[4]]
    ∧ (next (.permitReq (sent 2) 0x000005 1 true 0) (mine part 2)).auth.waits = [⟨1, 5, .maintenance, some 5000⟩]
    ∧ codes (next (.permitReq (sent 2) 0x000005 1 true 30) { mine part 2 with
        auth := { (mine part 2).auth with waits := List.replicate 16 ⟨7, 8, .operate, none⟩ } }) = [[8]] := by decide +kernel

theorem test_releaseAndRenew :
    (next (.permitRelease (sent 1) 0x000004 false) (mine part 2)).auth.permits[2] = none
    ∧ codes (next (.permitRelease (sent 1) 0x00000C false) (mine part 2)) = [[5]]
    ∧ (next (.permitRelease (sent 1) 0 true) { part with auth := { part.auth with waits := [⟨0, 8, .operate, none⟩] } }).auth.waits = []
    ∧ (next (.permitRenew (sent 1) 0x000004) (mine part 2)).auth.permits[2] = some (.operate 0 (some 30000)) := by decide +kernel

theorem test_leaseAndWait :
    (next (.leaseExpiry 2) (permit part 2 (.operate 0 (some 0)))).auth.permits[2] = none
    ∧ (next (.leaseExpiry 2) (permit part 2 (.operate 0 (some 0)))).auth.news[(0 : MasterIx)].list = [⟨1, .expired, 4, 0, none⟩]
    ∧ (next (.waitTimerExpiry 1) { part with auth := { part.auth with waits := [⟨1, 8, .operate, some 0⟩] } }).auth.waits = []
    ∧ part.auth.news[(0 : MasterIx)].list.length ≤ 8
    ∧ (let eight := { part with auth := { part.auth with news := part.auth.news.set 0 ⟨8, List.replicate 8 ⟨1, .granted, 0, 0, none⟩⟩ } }
       (eight.pushNews 0 .expired 4 0 none).auth.news[(0 : MasterIx)].list.length = 8) := by decide +kernel

/-- The scan of Table 3.11's kind: an entry that stays keeps a younger one that overlaps it, and lets one pass that does not. -/
theorem test_scan :
    (let s := { mine part 2 with auth := { (mine part 2).auth with
        waits := [⟨1, 0x0C, .operate, some 9⟩, ⟨2, 0x08, .operate, some 9⟩, ⟨3, 0x20, .operate, some 9⟩] } }
     s.scan.auth.waits.map (·.requester) = [1, 2] ∧ s.scan.auth.permits[5] = some (.operate 3 (some 30000))) := by decide +kernel

/-- An entry that a scan grants: its news, and nothing in HOLD. -/
theorem test_scanGrants :
    (let e : WaitEntry := ⟨1, 0x08, .maintenance, some 9⟩
     let s := { mine part 2 with auth := { (mine part 2).auth with waits := [⟨2, 0x04, .operate, some 9⟩, e] } }
     s.scan.auth.waits = [⟨2, 0x04, .operate, some 9⟩] ∧ s.scan.auth.permits[3] = some (.maintenance 1)
      ∧ s.scan.auth.news[(1 : MasterIx)].list = [⟨1, .granted, 0, 8, none⟩]
      ∧ ({ s with modes := held.modes } : State).scan = { s with modes := held.modes }
      ∧ s.modes.mode = .run ∧ (s.auth.waits.map (·.requester)).Nodup ∧ (0x04 : PosMask) &&& e.mask = 0
      ∧ ∀ p ∈ posMembers e.mask, s.grantable e.requester e.kind p = true) := by decide +kernel

/-! ### Section 5 -/

def ready (e : ElemRec) : State :=
  { part with prot := { part.prot with recs := part.prot.recs.set 5 ({ inst := e, time := e, ground := e, rev := e } : ProtRec) } }

theorem test_elements :
    ((ready { pickup := true, count := 60000 }).elementReady 5 .inst = true
      ∧ (ready { pickup := true, count := 60000 }).elementReady 5 .time = true
      ∧ (ready { pickup := true, count := 60000 }).elementReady 5 .ground = true
      ∧ (ready { pickup := true, count := 60000 }).elementReady 5 .reversePower = true
      ∧ (ready { pickup := true, count := 1 }).elementReady 5 .inst = false
      ∧ (next (.elementOperate 5 .inst) (scripted (put (ready { pickup := true, count := 2 }) 5 shut))).pos[5].state = .tripPulse
      ∧ (next (.elementOperate 5 .inst) (scripted (put (ready { pickup := true, count := 2 }) 5 shut))).prot.recs[5].inst.operated = true) := by
  decide +kernel

/-- A current frame delivered for a position. -/
def amps (s : State) (p : Pos) (v : Values) : State :=
  { s with meas := { s.meas with chans := s.meas.chans.set (currentChan p) ⟨.present, 0, some (v, 0)⟩ } }

/-- The pickups at a boundary, each at the value that just misses its setting and the one that just meets it; a due group adopted; a
missing frame; a lost channel. -/
theorem test_pickups :
    (let r := ((amps part 5 (.genCurrent 1000 49 true 10)).judgePickups).prot.recs[5]
     r.inst.pickup = false ∧ r.time.pickup = true ∧ r.ground.pickup = false ∧ r.rev.pickup = false)
    ∧ (let r := ((amps part 5 (.genCurrent 1001 50 true 11)).judgePickups).prot.recs[5]
       r.inst.pickup = true ∧ r.ground.pickup = true ∧ r.rev.pickup = true)
    ∧ ((amps part 5 (.genCurrent 119 50 false 11)).judgePickups).prot.recs[5].time.pickup = false
    ∧ ((amps part 5 (.genCurrent 119 50 false 11)).judgePickups).prot.recs[5].rev.pickup = false
    ∧ ((ready { pickup := true, count := 3, operated := true }).judgePickups).prot.recs[5].inst = { count := 3, operated := true }
    ∧ (let s := { part with prot := { part.prot with recs := part.prot.recs.set 5 ({ due := some .g2 } : ProtRec) } }
       s.judgePickups.prot.recs[5].active = .g2 ∧ s.judgePickups.prot.recs[5].due = none)
    ∧ (let s := { ready { pickup := true } with meas := { part.meas with chans := part.meas.chans.set 5 ⟨.measLost, 3, none⟩ } }
       s.judgePickups.prot.recs[5].frozen = true ∧ s.judgePickups.prot.recs[5].inst.pickup = false
        ∧ (s.channelLost 5).prot.recs[5].frozen = true ∧ (s.channelLost 5).prot.recs[5].rev.pickup = false) := by decide +kernel

/-- Stage 5: the count one below the delay and at it, a round without a frame, a frozen position, and I>> with pickup OFF. -/
theorem test_operates :
    (let s := amps (ready { pickup := true, count := 18 }) 5 (.genCurrent 2000 50 true 11)
     (s.operatePos 5).prot.recs[5].ground = { pickup := true, count := 19 } ∧ (s.operatePos 5).prot.recs[5].inst.operated = true
      ∧ (s.operatePos 5).prot.recs[5].rev = { pickup := true, count := 19 })
    ∧ (let s := amps (ready { pickup := true, count := 19 }) 5 (.genCurrent 2000 50 true 11)
       (s.operatePos 5).prot.recs[5].ground = { pickup := true, count := 20, operated := true })
    ∧ ((ready { count := 19, operated := true }).operatePos 5).prot.recs[5].ground = { operated := true }
    ∧ ((ready { count := 19, operated := true }).operatePos 5).prot.recs[5].inst = { count := 19, operated := true }
    ∧ (let s := ready { count := 19, operated := true }
       let ice := { s with prot := { s.prot with recs := s.prot.recs.set 5 { s.prot.recs[5] with frozen := true } } }
       (ice.operatePos 5).prot.recs[5] = ice.prot.recs[5])
    ∧ (let s := ready { count := 19, operated := true }
       let off := { s with prot := { s.prot with recs := s.prot.recs.set 5 { s.prot.recs[5] with read := { instPickup := none } } } }
       (off.operatePos 5).prot.recs[5].inst = {})
    ∧ (put part 5 { free with state := .unfitted }).operatePos 5 = put part 5 { free with state := .unfitted } := by decide +kernel

/-- A round below the pickup of I>: the accumulator is reset, or decays by its step down to 0, and the operated flag is clear. -/
theorem test_belowPickup :
    (let s := amps (ready { count := 9, operated := true }) 5 (.genCurrent 119 0 false 0)
     (s.operatePos 5).prot.recs[5].time = {}
      ∧ ([4, 9, 10].map fun d =>
          let r : ProtRec := { s.prot.recs[5] with read := { resetMode := .decay, decayStep := d } }
          (({ s with prot := { s.prot with recs := s.prot.recs.set 5 r } } : State).operatePos 5).prot.recs[5].time.count)
        = [5, 0, 0])
    ∧ ((⟨false, true, 9⟩ : ElemRec).runTime { resetMode := .decay, decayStep := 4 } 0) = { count := 5 }
    ∧ ((⟨true, false, 9⟩ : ElemRec).runTime {} 120) = { pickup := true, count := 15 } := by decide +kernel

/-- Curve 0 at its pickup and at twice it with a multiplier of 1.0, and the fixed-time curve: 60 a frame (Tables 5.3, 5.4). -/
theorem test_curves : timeStep {} 120 = 6 ∧ timeStep {} 240 = 60 ∧ timeStep { curve := 3 } 4000 = 60
    ∧ timeStep { curve := 2, timeMult := 100 } 120 = 1
    ∧ ((⟨false, true, 500⟩ : ElemRec).runTime { resetMode := .decay } 0).count = 0 := by decide

def raised (hold : Nat) (spent : Bool := false) : State := { part with prot := { part.prot with blockA := ⟨true, hold, spent⟩ } }

theorem test_blocks : part.feederPickup .a = false ∧ ((raised 0).updateBlock .a).prot.blockA = ⟨true, 5, false⟩
    ∧ ((raised 1).updateBlock .a).prot.blockA = {} ∧ ((raised 5).updateBlock .a).prot.blockA = ⟨true, 4, false⟩
    ∧ (next (.zoneHoldExpiry .a) (raised 0 true)).prot.blockA = {} ∧ next (.zoneHoldExpiry .a) (raised 0) = raised 0
    ∧ (let s := { part with prot := { part.prot with recs := part.prot.recs.set 11 ({ time := { pickup := true } } : ProtRec) } }
       s.feederPickup .a = true ∧ (s.updateBlock .a).prot.blockA = ⟨true, 0, false⟩) := by decide +kernel

theorem test_groupForce : part.base.guard = 0 ∧ (next (.groupForce (sent 1) 0 1) part).prot.forceA = .g2
    ∧ (next (.groupForce (sent 1) 0 1) part).prot.recs[11].due = some .g2
    ∧ (next (.groupForce (sent 1) 0 1) part).prot.recs[17].due = none
    ∧ codes (next (.groupForce (sent 30) 1 2) { part with base := { part.base with guard := 1 } }) = [[22]] := by decide +kernel

/-! ### Section 6 -/

def tripping : State :=
  { put part 11 { shut with state := .tripPulse, origin := some .trip } with
    router := { part.router with active := part.router.active.set 11 (some { cause := .iInst, timer := some 0 }) } }

theorem test_tripRequests :
    (put part 11 { free with state := .unfitted }).tripPlain 11 .iInst none = put part 11 { free with state := .unfitted }
    ∧ (part.tripPlain 11 .iInst none).pos[11].tripLocked = true ∧ (part.tripPlain 11 .overlap none).pos[11].tripLocked = false
    ∧ ((put part 11 shut).tripPlain 11 .iInst none).router.ring.length = 1
    ∧ ((put part 11 { free with state := .faulty, feedback := .travelling }).tripPlain 11 .stop none).pos[11].state = .tripPulse
    ∧ (tripping.tripPlain 11 .ground none).router.active[11]
      = some { cause := .iInst, secondary := [.ground], timer := some 0 } := by decide +kernel

theorem test_breakerFailure :
    (next (.bfTimerExpiry 11) (scripted tripping)).pos[11].bf = true ∧ (next (.bfTimerExpiry 11) (scripted tripping)).pos[11].state = .closed
    ∧ (next (.bfTimerExpiry 11) (put tripping 11 { tripping.pos[11] with feedback := .opened })).pos[11].state = .opened
    ∧ (let s := { tripping with router := { tripping.router with
          active := tripping.router.active.set 11 (some { cause := .bfBackup, backup := true, timer := some 0 }) } }
       (next (.bfTimerExpiry 11) (scripted s)).modes.cause = .secondFailure ∧ (next (.bfTimerExpiry 11) (scripted s)).router.uta = some 500)
    ∧ (put (put part 0 shut) 2 shut).backupSet 11 = [0, 2] ∧ part.backupSet 11 = [] := by decide +kernel

def record (o : FaultOutcome) (n : BitVec 16) : FaultRec := ⟨n, 0, 11, .iInst, some 900, .g1, {}, none, [], o⟩

/-- A breaker failure of QF1 with QA closed and QT in a trip of its own: backup trips, a secondary cause, and the outcome of the record. -/
def failing : State :=
  let s := scripted (put (put tripping 0 shut) 2 { shut with state := .tripPulse, origin := some .trip })
  { s with router := { s.router with
      nextSeq := 8, ring := [record .opened 7]
      active := (s.router.active.set 11 (some { cause := .iInst, record := some 7, timer := some 0 })).set 2
        (some { cause := .iTime, timer := some 40 }) } }

theorem test_backups :
    failing.backupSet 11 = [0, 2] ∧ (next (.bfTimerExpiry 11) failing).pos[0].state = .tripPulse
    ∧ (next (.bfTimerExpiry 11) failing).pos[0].tripLocked = true
    ∧ (next (.bfTimerExpiry 11) failing).router.active[0]
      = some { cause := .bfBackup, backup := true, record := some 8, timer := some 150, parent := some 7 }
    ∧ (next (.bfTimerExpiry 11) failing).router.active[2]
      = some { cause := .iTime, secondary := [.bfBackup], backup := true, timer := some 40 }
    ∧ (next (.bfTimerExpiry 11) failing).router.ring.map (fun r => (r.seq, r.pos, r.parent)) = [(7, 11, none), (8, 0, some 7)]
    ∧ (next (.bfTimerExpiry 11) failing).router.ring.map (·.outcome) = [.backup [0, 2], .opened]
    ∧ (let s := { failing with router := { failing.router with
          active := failing.router.active.set 11 (some { cause := .bfBackup, backup := true, record := some 7, timer := some 0 }) } }
       (next (.bfTimerExpiry 11) s).router.ring.map (·.outcome) = [.backupFailed [0, 2], .opened])
    ∧ (next (.bfTimerExpiry 11) (put failing 11 { failing.pos[11] with feedback := .opened })).router.ring.map (·.outcome)
      = [.cleared 0] := by decide +kernel

def programming : State := { part with router := { part.router with prog := some ⟨Vector.replicate 23 ⟨true, false⟩, some 7⟩ } }

theorem test_lockWord : (next .lockWordProgramComplete programming).base.lockWord[0].locked = true
    ∧ (next .lockWordProgramComplete programming).router.prog = none
    ∧ (next .lockWordProgramComplete { programming with router := { programming.router with progPending := true } }).router.prog
      = some ⟨Vector.replicate 23 {}, some 20⟩
    ∧ ({ part with lockAsk := true }.settleLock).router.prog = some ⟨Vector.replicate 23 {}, some 20⟩
    ∧ ({ programming with lockAsk := true }.settleLock).router.progPending = true := by decide +kernel

theorem test_stop :
    (next .stopAsserted (scripted (put part 11 shut))).pos[11].state = .tripPulse ∧ part.base.stopLine = false
    ∧ (next .stopAsserted (scripted closing)).router.stopPending = [2] ∧ (next .stopAsserted (scripted closing)).modes.cause = .stop
    ∧ (next .stopAsserted (scripted part)).pos[11].tripLocked = true
    ∧ (next .stopReleased { part with base := { part.base with stopLine := true } }).base.stopLine = false
    ∧ (next (.upstreamLineTimerExpiry .uta) { part with router := { part.router with uta := some 0 } }).router.uta = none
    ∧ (next (.upstreamLineTimerExpiry .utb) { part with router := { part.router with utb := some 0 } }).router.utb = none := by
  decide +kernel

def ring (rs : List FaultRec) : State := { part with router := { part.router with ring := rs, overrun := true } }

theorem test_ring :
    (part.storeRecord 11 .iInst none .g1 none).1 = some 0
    ∧ ((ring (List.replicate 32 (record .opened 0))).storeRecord 11 .iInst none .g1 none).1 = none
    ∧ (next (.recordRelease (sent 1) 7) (ring [record (.cleared 40) 7])).router.ring = []
    ∧ (next (.recordRelease (sent 1) 7) (ring [record (.cleared 40) 7])).router.overrun = false
    ∧ codes (next (.recordRelease (sent 1) 7) (ring [record .opened 7])) = [[21]]
    ∧ codes (next (.recordRelease (sent 1) 8) (ring [record .opened 7])) = [[29]]
    ∧ codes (next (.recordRead (sent 1) 0 0) (ring [record .opened 7])) = [[0]]
    ∧ codes (next (.recordRead (sent 1) 0 4) (ring [record .opened 7])) = [[28]]
    ∧ codes (next (.recordRead (sent 1) 1 0) (ring [record .opened 7])) = [[29]] := by decide +kernel

/-! ### Section 4: the checks -/

/-- Two voltages on the sections, with the source of each known. -/
def sides (a b : Nat) : State :=
  let s := volts (volts part 25 a none) 26 b none
  { s with feeds := { s.feeds with a := { ua := true }, b := { ub := true } } }

/-- Table 4.9 on QT: the boundaries of live, dead and low, both sides live with the pair enabled and not, and a feeder. -/
theorem test_parallel :
    part.parallelRule 2 false = some .residual ∧ (volts part 25 1000 none).parallelRule 2 false = some .residual
    ∧ (sides 850 850).parallelRule 2 true = some .parallel
    ∧ (let s := { sides 850 850 with set := { part.set with utilClosed := true } }
       s.parallelRule 2 true = none ∧ s.parallelRule 2 false = some .parallel
        ∧ ({ s with feeds := { s.feeds with b := {} } } : State).parallelRule 2 true = some .parallel)
    ∧ (sides 850 250).parallelRule 2 false = none ∧ (sides 850 251).parallelRule 2 false = some .residual
    ∧ (sides 250 850).parallelRule 2 false = none ∧ (sides 849 850).parallelRule 2 true = some .residual
    ∧ (sides 849 849).parallelRule 2 false = none ∧ part.parallelRule 11 false = none
    ∧ (let s := sides 849 849
       ({ s with src := { s.src with ua := { state := .failing }, ub := { state := .healthy } } } : State).parallelRule 2 false
        = some .parallel) := by decide +kernel

/-- R69 on a feeder of a gen-fed section: a demand equal to the headroom fits, one above it does not, and what the group issued counts. -/
def capacity (demand : Nat) : State :=
  { part with
    feeds := { part.feeds with a := { gb := true } }
    set := { part.set with
      margin := 100, ratings := Vector.replicate 6 100, pos := part.set.pos.set 11 { part.set.pos[11] with demand := demand } }
    led := { part.led with gens := part.led.gens.set 0 ({ state := .online } : GenRec) } }

theorem test_capacity :
    (capacity 100).headroom = 100 ∧ (capacity 100).capacityCheck 11 0 = none ∧ (capacity 101).capacityCheck 11 0 = some .capacity
    ∧ (capacity 100).capacityCheck 11 1 = some .capacity ∧ (capacity 101).capacityCheck 17 0 = none
    ∧ (capacity 101).capacityCheck 2 0 = none := by decide +kernel

/-! ### Section 4 -/

def staging (s : State) : State := { s with inter := { s.inter with layerA := { s.inter.layerA with staging := some s.inter.layerB.committed } } }

theorem test_layers :
    ((next (.layerWrite (sent 1) 0 21 [(0, 1), (2, 0)]) part).inter.layerA.staging.map fun c => (c.close[21], c.opn[21], c.close[22]))
      = some (.permit, .block, .defer)
    ∧ codes (next (.layerWrite (sent 1) 0 22 [(0, 1), (2, 0)]) part) = [[28]]
    ∧ codes (next (.layerWrite (sent 2) 0 0 [(0, 1)]) part) = [[4]]
    ∧ (next (.layerCommit (sent 1) 0) (staging part)).inter.layerA.commits = 1
    ∧ (next (.layerCommit (sent 1) 0) (staging part)).inter.layerA.staging = none
    ∧ codes (next (.layerCommit (sent 2) 1) part) = [[29]]
    ∧ (next (.layerAbandon (sent 1) 0) (staging part)).inter.layerA = part.inter.layerA := by decide +kernel

theorem test_layerRead :
    (part.layerRead 0 0 0 1 0) = ⟨.done, [1, 1, 0, 0, 0], 0, 1⟩ ∧ (part.layerRead 0 1 0 1 0).code = .notFound
    ∧ ((staging part).layerRead 0 1 0 1 0).data = [1, 1, 0, 1, 0] ∧ codes (next (.layerRead (sent 30) 0 0 0 23 5) part) = [[0]]
    ∧ (part.layerRead 0 0 1 23 0).code = .range := by decide +kernel

theorem test_combine : (next (.setCombine (sent 1) 3) part).set.combine = .either ∧ codes (next (.setCombine (sent 1) 2) part) = [[0]]
    ∧ codes (next (.setCombine (sent 1) 3) { part with base := { part.base with guard := 2 } }) = [[22]] := by decide +kernel

theorem test_openClose :
    (next (.openCmd (sent 1) 11) (mine (put part 11 shut) 11)).pos[11].state = .openPulse
    ∧ (next (.openCmd (sent 1) 11) (mine (put part 11 shut) 11)).auth.permits[11] = some (.operate 0 (some 30000))
    ∧ codes (next (.openCmd (sent 1) 11) (mine part 11)) = [[0]] ∧ codes (next (.closeCmd (sent 1) 11) (mine (put part 11 shut) 11)) = [[0]]
    ∧ (next (.closeCmd (sent 1) 11) (opened (mine part 11))).pos[11].state = .closePulse
    ∧ codes (next (.closeCmd (sent 1) 11) (mine part 11)) = [[15]] ∧ codes (next (.closeCmd (sent 1) 11) (mine locked 11)) = [[12]]
    ∧ codes (next (.openCmd (sent 1) 11) (mine held 11)) = [[3]] ∧ codes (next (.closeCmd (sent 1) 11) part) = [[5]] := by decide +kernel

/-- Every entry of both layers BLOCK. -/
def barred (s : State) : State :=
  let c : Layer := { committed := { close := Vector.replicate 23 .block, opn := Vector.replicate 23 .block } }
  { s with inter := { s.inter with layerA := c, layerB := c } }

/-- GEN_1's node as a VIEW master. -/
def viewer : State := { part with set := { part.set with masters := part.set.masters.set 3 ⟨some 3, .view, 0xFFF⟩ } }

/-- The refusals of Table 4.8, of an OPEN and of a CLOSE, each with every check before it passed. -/
theorem test_openCloseRefused :
    ([next (.openCmd (sent 1) 23) held, next (.openCmd (sent 3) 11) { viewer with modes := held.modes }, next (.openCmd (sent 3) 11) viewer,
      next (.openCmd (sent 1) 11) (put part 11 { free with state := .unfitted }),
      next (.openCmd (sent 1) 11) (mine (put part 11 { free with state := .unfitted }) 11),
      next (.openCmd (sent 1) 11) (mine (put part 11 { free with state := .faulty }) 11), next (.openCmd (sent 1) 2) (mine opening 2),
      next (.openCmd (sent 1) 11) (barred (mine (put part 11 shut) 11)),
      next (.openCmd (sent 1) 11) (barred (mine part 11))].map codes)
      = [[[28]], [[3]], [[4]], [[5]], [[9]], [[10]], [[11]], [[15]], [[0]]]
    ∧ ([next (.closeCmd (sent 1) 23) held, next (.closeCmd (sent 3) 11) { viewer with modes := held.modes },
      next (.closeCmd (sent 3) 11) viewer, next (.closeCmd (sent 1) 11) (put part 11 { free with state := .unfitted }),
      next (.closeCmd (sent 1) 11) (mine (put part 11 { free with state := .unfitted }) 11),
      next (.closeCmd (sent 1) 11) (mine (put part 11 { free with state := .faulty }) 11), next (.closeCmd (sent 1) 2) (mine closing 2),
      next (.closeCmd (sent 1) 11) (mine (put part 11 { free with bf := true, shed := true }) 11),
      next (.closeCmd (sent 1) 11) (mine (put part 11 { free with shed := true }) 11), next (.closeCmd (sent 1) 5) (mine part 5),
      next (.closeCmd (sent 1) 2) (barred (mine part 2)), next (.closeCmd (sent 1) 2) (opened (mine part 2)),
      next (.closeCmd (sent 1) 2) (opened (mine (sides 850 850) 2)),
      next (.closeCmd (sent 1) 11) (opened (mine (capacity 101) 11))].map codes)
      = [[[28]], [[3]], [[4]], [[5]], [[9]], [[10]], [[11]], [[12]], [[13]], [[14]], [[15]], [[17]], [[16]], [[18]]] := by decide +kernel

/-- QT between a live section A and a dead one B: without a window. -/
def live : State := volts (volts (opened (mine part 2)) 25 1000 (some 5000)) 26 1000 (some 5000)

def busy (s : State) : State := { s with sync := { s.sync with state := .measuring, target := some ⟨4, .master, some 1, .auto⟩ } }

theorem test_closeSync :
    live.pos[2].state = .opened ∧ live.parallelRule 2 true = some .parallel
    ∧ (let s := { live with
          src := { live.src with ua := { state := .healthy }, ub := { state := .healthy } }
          set := { live.set with utilClosed := true }, feeds := { live.feeds with a := { ua := true }, b := { ub := true } } }
       s.parallelRule 2 true = none ∧ s.deadBus 2 = false
        ∧ (next (.closeSync (sent 1) 2 1) s).sync.target = some ⟨2, .master, some 0, .stepped⟩
        ∧ (next (.closeSync (sent 1) 2 1) s).sync.att.attemptTimer = some 120000
        ∧ (next (.closeSync (sent 1) 2 0) (busy s)).sync.waits = [⟨2, .master, some 0, .auto⟩])
    ∧ codes (next (.closeSync (sent 1) 5 0) (opened (mine part 5))) = [[14]]
    ∧ codes (next (.closeSync (sent 1) 4 0) (mine (put part 4 shut) 4)) = [[0]] := by decide +kernel

/-- QT between a live section A and a dead section B at no voltage: closed without a window, at the grant. -/
def oneDead : State :=
  let s := scripted (opened (mine part 2))
  volts (volts { s with src := { s.src with ua := { state := .healthy } }, feeds := { s.feeds with a := { ua := true } } } 25 1000 none) 26 0 none

/-- QG1 and QG2 before a dead generator bus, both of master 3, each of its generators live. -/
def twoOnDead : State :=
  let s := permit (permit (opened (scripted part)) 5 (.operate 3 (some 9))) 6 (.operate 3 (some 9))
  volts (volts (volts s 28 1000 none) 29 1000 none) 27 0 none

def entryOf (p : Pos) : SyncEntry := ⟨p, .generator, some 3, .auto⟩

def waiting (s : State) (es : List SyncEntry) : State := { s with sync := { s.sync with waits := es } }

theorem test_deadBus :
    oneDead.deadBus 2 = true ∧ oneDead.parallelRule 2 true = none ∧ (volts oneDead 26 300 none).deadBus 2 = false
    ∧ (next (.closeSync (sent 1) 2 0) oneDead).sync = { state := .closing, target := some ⟨2, .master, some 0, .auto⟩ }
    ∧ (next (.closeSync (sent 1) 2 0) oneDead).pos[2].origin = some .sync ∧ codes (next (.closeSync (sent 1) 2 0) oneDead) = [[1]]
    ∧ twoOnDead.deadBus 5 = true ∧ (put twoOnDead 6 shut).deadBus 5 = false ∧ twoOnDead.deadBus 3 = false := by decide +kernel

/-- The grants on a dead bus, one at a time: the first closes, and its outcome lets the second be granted; a grant refused. -/
theorem test_grants :
    (let u := (waiting twoOnDead [entryOf 5, entryOf 6]).regrant
     u.sync.state = .closing ∧ u.sync.target = some (entryOf 5) ∧ u.sync.waits = [entryOf 6] ∧ u.pos[5].state = .closePulse
      ∧ u.inbox = [.syncLedger 5 none] ++ (u.inbox.drop 1) ∧ u.regrant = u
      ∧ (u.handle (.outcomeSync 5 .closeFail)).sync.target = some (entryOf 6)
      ∧ ((put u 5 shut).handle (.outcomeSync 5 .closedDone)).sync.state = .measuring)
    ∧ (let s := waiting { twoOnDead with inter := part.inter } [entryOf 5]
       entryEnded s (s.grantEntry (entryOf 5)) { state := .idle } (entryOf 5) .interlock (some (.refusal .interlock)) [.syncLedger 5 none])
    ∧ (let s := waiting (opened part) [entryOf 5]
       entryEnded s (s.grantEntry (entryOf 5)) { state := .idle } (entryOf 5) .cancelled none [.syncLedger 5 none])
    ∧ ((waiting (put twoOnDead 5 { free with state := .faulty }) [entryOf 5]).regrant).sync.outcomes.map (·.detail)
      = [some (.refusal .faulty)]
    ∧ ((waiting (put twoOnDead 5 shut) [entryOf 5]).grantEntry (entryOf 5)).sync.state = .measuring := by decide +kernel

theorem test_resetAndUnshed :
    (next (.resetTrip (sent 1) 11) (mine locked 11)).pos[11].tripLocked = false
    ∧ (next (.resetTrip (sent 1) 11) (mine locked 11)).router.prog = some ⟨Vector.replicate 23 {}, some 20⟩
    ∧ (let s := { mine (put part 11 { free with shed := true }) 11 with led := { part.led with stack := [12, 11] } }
       (next (.unshed (sent 1) 11) s).pos[11].shed = false ∧ (next (.unshed (sent 1) 11) s).led.stack = [12])
    ∧ codes (next (.unshed (sent 1) 10) (mine part 10)) = [[28]] := by decide +kernel

def grouped : State := scripted (opened (mine (mine (put part 11 shut) 11) 12))

theorem test_groupSwitch :
    (next (.groupSwitch (sent 1) 0x000800 0 2) grouped).inter.group = ⟨some 0, .opening, [⟨11, false, .issued⟩], none⟩
    ∧ (next (.groupSwitch (sent 1) 0x000800 0 2) grouped).pos[11].state = .openPulse
    ∧ grouped.groupCheck 0 0x000800 ⟨11, false, .pending⟩ = none
    ∧ codes (next (.groupSwitch (sent 1) 0x000800 0 2)
        { grouped with inter := { grouped.inter with group := { phase := .closing } } }) = [[11]]
    ∧ codes (next (.groupSwitch (sent 1) 0x000800 0 1) grouped) = [[5]]
    ∧ (next (.groupSwitch (sent 1) 0x001800 1 2) grouped).inter.group.phase = .deadTime
    ∧ (next (.groupSwitch (sent 1) 0x001800 1 2) grouped).inter.group.list = [⟨11, true, .pending⟩, ⟨12, true, .pending⟩] := by
  decide +kernel

def waitingGroup (s : State) : State :=
  { s with inter := { s.inter with group := ⟨some 0, .deadTime, [⟨11, false, .done⟩, ⟨12, true, .pending⟩], some 0⟩ } }

theorem test_deadTimer :
    (next .deadTimerExpiry (waitingGroup grouped)).inter.group = ⟨some 0, .closing, [⟨11, false, .done⟩, ⟨12, true, .issued⟩], none⟩
    ∧ (next .deadTimerExpiry (waitingGroup grouped)).pos[12].state = .closePulse ∧ grouped.parallelRule 12 false = none
    ∧ grouped.capacityCheck 12 0 = none
    ∧ (next .deadTimerExpiry (waitingGroup held)).inter.group = ⟨some 0, .idle, [⟨11, false, .done⟩, ⟨12, true, .skipped .hold⟩], none⟩ := by
  decide +kernel

/-- GROUP_SWITCH refused at the lowest position that fails, and taken with no open in flight: the dead time, none, and no close. -/
theorem test_groupWithoutOpens :
    codes (next (.groupSwitch (sent 1) 0 0 2) grouped) = [[28]]
    ∧ ((next (.groupSwitch (sent 1) 0x007800 0 2) grouped).link.ports[(0 : PortIx)].replies.map fun r => (r.payload.take 1, r.payload.drop 2))
      = [([5], [13])]
    ∧ (next (.groupSwitch (sent 1) 0x001000 1 2) grouped).inter.group
      = ⟨some 0, .deadTime, [⟨12, true, .pending⟩], some grouped.set.groupDead⟩
    ∧ (let s := { grouped with set := { grouped.set with groupDead := 0 } }
       (next (.groupSwitch (sent 1) 0x001000 1 2) s).inter.group = ⟨some 0, .closing, [⟨12, true, .issued⟩], none⟩
        ∧ (next (.groupSwitch (sent 1) 0x001000 1 2) s).pos[12].state = .closePulse)
    ∧ (next (.groupSwitch (sent 1) 0x001000 0 2) grouped).inter.group = ⟨some 0, .idle, [⟨12, false, .done⟩], none⟩
    ∧ (next (.groupSwitch (sent 1) 0x001000 0 2) grouped).link.pendingSets[0] = 1 <<< NoticeClass.group.bit := by decide +kernel

/-- A group in a phase, with the entries given. -/
def groupAt (ph : GroupPhase) (es : List GroupEntry) : State := { grouped with inter := { grouped.inter with group := ⟨some 0, ph, es, none⟩ } }

/-- Outcome reports: one of several opens, the last open with a close pending and with none, and the last close. -/
theorem test_groupOutcomes :
    ((groupAt .opening [⟨11, false, .issued⟩, ⟨13, false, .issued⟩]).handle (.outcomeGroup 11 .openedDone)).inter.group
      = ⟨some 0, .opening, [⟨11, false, .done⟩, ⟨13, false, .issued⟩], none⟩
    ∧ ((groupAt .opening [⟨11, false, .issued⟩, ⟨12, true, .pending⟩]).handle (.outcomeGroup 11 .openFail)).inter.group
      = ⟨some 0, .deadTime, [⟨11, false, .failed .openFail⟩, ⟨12, true, .pending⟩], some grouped.set.groupDead⟩
    ∧ (let s := groupAt .opening [⟨11, false, .issued⟩, ⟨12, true, .pending⟩]
       (({ s with set := { s.set with groupDead := 0 } } : State).handle (.outcomeGroup 11 .openedDone)).inter.group
        = ⟨some 0, .closing, [⟨11, false, .done⟩, ⟨12, true, .issued⟩], none⟩)
    ∧ ((groupAt .opening [⟨11, false, .issued⟩]).handle (.outcomeGroup 11 .takenByTrip)).inter.group
      = ⟨some 0, .idle, [⟨11, false, .failed .takenByTrip⟩], none⟩
    ∧ ((groupAt .closing [⟨11, true, .issued⟩, ⟨12, true, .issued⟩]).handle (.outcomeGroup 11 .closedDone)).inter.group.phase = .closing
    ∧ ((groupAt .closing [⟨11, true, .issued⟩]).handle (.outcomeGroup 11 .closedDone)).inter.group
      = ⟨some 0, .idle, [⟨11, true, .done⟩], none⟩
    ∧ ((groupAt .closing [⟨11, true, .issued⟩]).handle (.outcomeGroup 11 .closedDone)).link.pendingSets[0] = 1 <<< NoticeClass.group.bit := by
  decide +kernel

def joined (p : PosRec) : State :=
  { scripted (put part 2 p) with inter := { part.inter with joins := { uaUb := some ⟨2, some 0⟩ } } }

theorem test_overlap :
    (next (.overlapTimerExpiry .uaUb) (joined shut)).pos[2].state = .tripPulse
    ∧ (next (.overlapTimerExpiry .uaUb) (put (joined free) 3 shut)).pos[3].state = .tripPulse
    ∧ (next (.overlapTimerExpiry .uaUb) (joined free)).inter.joins.uaUb = some ⟨2, none⟩ := by decide +kernel

/-- QT closes between sections fed by the two utilities: the join formed, and later broken. -/
def tied (k : ChangeKind) : FeedChange := ⟨⟨{ ua := true }, { ub := true }, {}⟩, ⟨{ ua := true, ub := true }, { ua := true, ub := true }, {}⟩, 2, k⟩

def across : State := scripted (put (sides 850 850) 2 shut)

theorem test_joins :
    (across.interlockFeeds (tied .commanded)).inter.joins = { uaUb := some ⟨2, some across.set.overlapTime⟩ }
    ∧ (across.interlockFeeds (tied .commanded)).pos = across.pos
    ∧ ((joined shut).interlockFeeds { tied .commanded with before := (tied .commanded).after, after := (tied .commanded).before }).inter.joins
      = {}
    ∧ (across.interlockFeeds (tied .uncommandedClose)).pos[2].state = .tripPulse
    ∧ (across.interlockFeeds (tied .uncommandedClose)).router.active[2].map (·.cause) = some .unauthParallel
    ∧ (let s := { across with sync := { across.sync with
          state := .inWindow, target := some ⟨2, .master, some 0, .auto⟩, att := { live := true } } }
       (s.interlockFeeds (tied .uncommandedClose)).pos = s.pos)
    ∧ (let s := { across with meas := { across.meas with chans := across.meas.chans.set 25 {} } }
       (s.interlockFeeds (tied .uncommandedClose)).pos = s.pos) := by decide +kernel

/-! ### Section 7 -/

def monitor (r : MonRec) (v : Nat) : State := let s := volts part 23 v (some 5000); { s with src := { s.src with ua := r } }

theorem test_roundClass :
    (volts part 23 900 (some 4950)).roundClass .ua = .inBand ∧ (volts part 23 1100 (some 5050)).roundClass .ua = .inBand
    ∧ (volts part 23 850 none).roundClass .ua = .liveOut ∧ (volts part 23 849 (some 5000)).roundClass .ua = .deadRound
    ∧ (volts part 24 900 (some 5051)).roundClass .ub = .liveOut ∧ part.roundClass .gb = .noValue
    ∧ ({ part with meas := { part.meas with chans := part.meas.chans.set 27 ⟨.measLost, 3, none⟩ } }).roundClass .gb = .lostRound := by
  decide +kernel

theorem test_monitor :
    ((monitor {} 1000).monitorRound .ua).src.ua = ⟨.unstable, 1, .idle, false⟩
    ∧ ((monitor ⟨.unstable, 29999, .idle, false⟩ 1000).monitorRound .ua).src.ua = ⟨.healthy, 0, .idle, false⟩
    ∧ ((monitor ⟨.healthy, 0, .idle, false⟩ 800).monitorRound .ua).src.ua = ⟨.failing, 0, .running 500, false⟩
    ∧ ((monitor ⟨.failing, 0, .held 9, false⟩ 800).monitorRound .ua).src.ua = ⟨.failing, 0, .running 9, false⟩
    ∧ ((monitor ⟨.lost, 0, .idle, false⟩ 880).monitorRound .ua).src.ua = ⟨.unstable, 0, .idle, false⟩
    ∧ (next (.lossTimerExpiry .ua) (scripted (monitor ⟨.failing, 0, .running 0, false⟩ 800))).src.ua = ⟨.lost, 0, .idle, false⟩
    ∧ (next (.stabilityProved .ua) (scripted (monitor ⟨.unstable, 30000, .idle, true⟩ 1000))).src.ua = ⟨.healthy, 0, .idle, false⟩
    ∧ next (.stabilityProved .ua) (monitor ⟨.unstable, 30000, .idle, false⟩ 1000) = monitor ⟨.unstable, 30000, .idle, false⟩ 1000 := by decide +kernel

theorem test_autoTransfer : (next (.autoTransfer (sent 2) 1) part).src.auto = true ∧ codes (next (.autoTransfer (sent 2) 0) part) = [[0]]
    ∧ codes (next (.autoTransfer (sent 30) 1) part) = [[4]] := by decide +kernel

def planned (steps : List (Option Step)) : State :=
  { scripted part with set := { part.set with plans := part.set.plans.set 1 (Vector.ofFn fun i => (steps[i.val]?).join) } }

/-- The engine running the plan of slot 1 at a step. -/
def running (s : State) (ph : StepPhase) (st : HeldTimer := .idle) (poll : Timer := none) (marks : Marks := {}) : State :=
  { s with eng := { s.eng with
      state := .running, run := some ⟨1, 4, 0, ph⟩, stepTimer := st, poll := poll, marks := marks
      result := some { slot := 1, cause := .master 0, set := 4, step := 0 } } }

/-- The scenario LOSS_A standing, on the plan of slot 1. -/
def lossA (steps : List (Option Step)) : State :=
  let s := planned steps
  { s with
    src := { s.src with auto := true, ua := { state := .lost } }, feeds := { s.feeds with a := { ua := true } }
    set := { s.set with scenarios := { s.set.scenarios with lossA := some 1 } } }

/-- A plan in progress, with a pending scenario or none. -/
def occupied (p : Option Scenario) : State :=
  { lossA [] with eng := { (lossA []).eng with state := .running, pendingSc := p } }

/-- Scenarios: the conditions, the start, the reasons for none, and the pending slot. -/
theorem test_scenarios :
    (lossA []).condition .lossA = true ∧ part.condition .lossBoth = true ∧ part.condition .returnA = false
    ∧ ({ part with src := { part.src with ub := { state := .healthy } } } : State).condition .returnB = true
    ∧ (lossA []).stands .lossA = some 1 ∧ (lossA []).stands .lossB = none
    ∧ (((lossA [some (.waitHealthy .ub 500), some .finish]).judgeScenarios true).eng.result.map (·.cause)) = some (.scenario .lossA)
    ∧ ((put (lossA [some (.openPos 2), some .finish]) 2 shut).takeScenario .lossA 1).pos[2].origin = some .engine
    ∧ ((lossA []).takeScenario .lossA 1).eng.lastNot = some (.lossA, .incomplete)
    ∧ ((permit (lossA [some (.openPos 2), some .finish]) 2 (.maintenance 1)).takeScenario .lossA 1).eng.lastNot = some (.lossA, .maint)
    ∧ ((occupied none).takeScenario .lossA 1).eng.pendingSc = some .lossA
    ∧ ((occupied (some .returnA)).takeScenario .lossA 1).eng.pendingSc = some .lossA
    ∧ ((occupied (some .returnA)).takeScenario .lossA 1).eng.lastNot = some (.returnA, .outranked)
    ∧ ((occupied (some .lossBoth)).takeScenario .lossA 1).eng.lastNot = some (.lossA, .outranked) := by decide +kernel

/-- LOSS_A and LOSS_B standing by feed sets that are not those of the position table, LOSS_A's plan opening QT: both are handed over, by the
state at the event. -/
def bothLost : State :=
  let s := lossA [some (.openPos 2), some .finish]
  { put s 2 shut with
    src := { s.src with ub := { state := .lost } }, feeds := ⟨{ ua := true, gb := true }, { ub := true, gb := true }, {}⟩
    set := { s.set with scenarios := { s.set.scenarios with lossA := some 1, lossB := some 1 } } }

theorem test_handedByTheEvent :
    bothLost.feeds ≠ feedsOf bothLost.pos ∧ bothLost.stands .lossA = some 1 ∧ bothLost.stands .lossB = some 1
    ∧ bothLost.stands .lossBoth = none
    ∧ bothLost.judgeScenarios true
      = [(Scenario.lossA, (1 : SlotIx)), (.lossB, 1)].foldl (fun v x => v.takeScenario x.1 x.2)
        { bothLost with src := { bothLost.src with flags := bothLost.conditions } }
    ∧ (bothLost.judgeScenarios true).eng.pendingSc = some .lossB ∧ (bothLost.judgeScenarios true).pos[2].state = .openPulse := by
  decide +kernel

/-- The pending scenario tested again at the end of a plan. -/
def again (s : State) (c : Scenario) : State := { s with eng := { s.eng with state := .idle, pendingSc := some c } }

theorem test_retest :
    ((again (lossA []) .lossB).retest).2.eng.lastNot = some (.lossB, .noLongerStands)
    ∧ ((again (lossA []) .lossA).retest).2.eng.lastNot = some (.lossA, .incomplete)
    ∧ ((again (permit (lossA [some (.openPos 2), some .finish]) 2 (.maintenance 1)) .lossA).retest).2.eng.lastNot = some (.lossA, .maint)
    ∧ ((again (lossA [some (.openPos 2), some .finish]) .lossA).retest).1 = true
    ∧ ((again (lossA [some (.openPos 2), some .finish]) .lossA).retest).2.eng.run = some ⟨1, 4, 0, .waitingToIssue⟩
    ∧ part.retest = (false, part) := by decide +kernel

theorem test_planWrite :
    (next (.planWrite (sent 30) 7 15 [⟨1, 2, 0⟩, ⟨8, 0, 0⟩]) part).set.plans[7][15] = some (.openPos 2)
    ∧ (next (.planWrite (sent 30) 7 15 [⟨1, 2, 0⟩, ⟨8, 0, 0⟩]) part).set.plans[7][0] = some .finish
    ∧ codes (next (.planWrite (sent 30) 7 15 [⟨1, 5, 0⟩]) part) = [[28]] ∧ codes (next (.planClear (sent 1) 3) part) = [[0]]
    ∧ (part.planRead 3 0 1 0) = ⟨.done, [1, 0, 0, 0, 0, 0xFF, 0xFF, 0xFF], 0, 1⟩
    ∧ codes (next (.planRead (sent 1) 3 0 16 6) part) = [[0]] := by decide +kernel

/-! ### Section 8 -/

theorem test_planStart :
    (next (.planStart (sent 1) 1) (planned [some (.waitHealthy .ua 500), some .finish])).eng.run = some ⟨1, 0, 0, .waiting⟩
    ∧ (next (.planStart (sent 1) 1) (put (planned [some (.openPos 2), some .finish]) 2 shut)).auth.permits[2] = some .engine
    ∧ (next (.planStart (sent 1) 1) (put (planned [some (.openPos 2), some .finish]) 2 shut)).pos[2].state = .openPulse
    ∧ codes (next (.planStart (sent 1) 1) held) = [[3]] ∧ codes (next (.planStart (sent 1) 1) part) = [[21]]
    ∧ codes (next (.planStart (sent 1) 1) (running part .waiting)) = [[11]]
    ∧ codes (next (.planStart (sent 1) 1) (permit (planned [some (.openPos 2), some .finish]) 2 (.maintenance 1))) = [[19]] := by
  decide +kernel

theorem test_planResumeAbandon :
    (let s := { running (planned [some (.waitHealthy .ua 500), some .finish]) .halted with
        eng := { (running part .halted).eng with state := .suspended } }
     (next (.planResume (sent 1)) s).eng.state = .running
      ∧ (next (.planAbandon (sent 30)) (permit s 2 .engine)).eng.state = .idle
      ∧ (next (.planAbandon (sent 30)) (permit s 2 .engine)).auth.permits[2] = none)
    ∧ codes (next (.planAbandon (sent 30)) part) = [[29]] := by decide +kernel

/-- A plan whose step is ISSUED on QT. -/
def issued (st : Step) : State := running (planned [some st, some .finish]) .issued (.running 70)

/-- A trip that suspends a plan: what becomes of the step's own drive, of its synchronizer entry, and of a trip outside the set. -/
theorem test_suspend :
    ((issued (.openPos 2)).engineTrip 2 .iInst).eng.state = .suspended ∧ ((issued (.openPos 2)).engineTrip 2 .iInst).eng.stepTimer = .held 70
    ∧ ((issued (.openPos 2)).engineTrip 2 .iInst).eng.result.map (·.trips) = some [(2, .iInst)]
    ∧ (issued (.openPos 2)).engineTrip 3 .iInst = issued (.openPos 2)
    ∧ (let s := put (issued (.closePos 3)) 3 { free with state := .closePulse, origin := some .engine, closeTimer := some 9 }
       (s.engineTrip 2 .iInst).pos[3].state = .opened ∧ (s.engineTrip 2 .iInst).pos[3].lastOutcome = some (.closeFail, .engine))
    ∧ (let e : SyncEntry := ⟨3, .engine, none, .auto⟩
       (({ issued (.closeSync 3) with sync := { part.sync with waits := [e] } } : State).engineTrip 2 .iInst).sync.waits = []
        ∧ (({ issued (.closeSync 3) with sync := { part.sync with state := .measuring, target := some e } } : State).engineTrip 2
            .iInst).sync.target = none)
    ∧ (let s := (issued (.openPos 2)).engineTrip 2 .iInst
       (s.engineTrip 2 .stop).eng.result.map (·.trips) = some [(2, .iInst), (2, .stop)]) := by decide +kernel

/-- Outcomes that reach a step: its own, a failure, one taken by a trip, and those of another position or in another phase. -/
theorem test_engineOutcome :
    ((issued (.openPos 2)).engineOutcome 2 .openedDone).eng.state = .idle
    ∧ ((issued (.openPos 2)).engineOutcome 2 .openFail).eng.result.bind (·.outcome) = some (.failed 0 .openFail)
    ∧ ((issued (.openPos 2)).engineOutcome 2 .takenByTrip).eng.state = .suspended
    ∧ (issued (.openPos 2)).engineOutcome 2 .closedDone = issued (.openPos 2)
    ∧ ((issued (.closePos 2)).engineOutcome 2 .closedDone).eng.state = .idle
    ∧ ((issued (.closePos 2)).engineOutcome 2 .closeFail).eng.result.bind (·.outcome) = some (.failed 0 .closeFail)
    ∧ (issued (.closePos 2)).engineOutcome 2 .openedDone = issued (.closePos 2)
    ∧ (issued (.closePos 2)).engineOutcome 3 .closedDone = issued (.closePos 2)
    ∧ (running (planned [some (.openPos 2)]) .waitingToIssue).engineOutcome 2 .openedDone = running (planned [some (.openPos 2)]) .waitingToIssue
    ∧ part.engineOutcome 2 .openedDone = part := by decide +kernel

theorem test_engineTimers :
    (let s := running (planned [some (.openPos 2), some .finish]) .waitingToIssue .idle (some 0)
     (next .pollTimerExpiry (put s 2 closing.pos[2])).eng.poll = some 10 ∧ (next .pollTimerExpiry (put s 2 shut)).pos[2].state = .openPulse)
    ∧ (next .stepTimerExpiry (running (planned [some (.dwell 10), some .finish]) .waiting (.running 0))).eng.state = .idle
    ∧ (next .stepTimerExpiry (running (planned [some (.waitDead .a 500), some .finish]) .waiting (.running 0))).eng.result.bind (·.outcome)
      = some (.failed 0 .timeout)
    ∧ (let s := running (planned [some (.closePos 2), some .finish]) .waitingToIssue .idle none { a := some 0 }
       let ok := volts (volts (opened s) 25 0 none) 26 0 none
       ok.engCloseChecks 2 false = none ∧ (next (.deadTimeMarkExpiry .a) ok).pos[2].state = .closePulse)
    ∧ (next (.deadTimeMarkExpiry .b) (running part .waiting .idle none { b := some 0 })).eng.marks = {}
    ∧ ((running (planned [some (.dwell 10), some (.waitHealthy .ub 300), some .finish]) .waiting).engGo .complete).eng.run
      = some ⟨1, 4, 1, .waiting⟩ := by decide +kernel

/-- Polls and completions: a step held back, a CLOSE and a CLOSE_SYNC issued, a condition standing or not, and the timeouts. -/
theorem test_stepsPolled :
    (let s := running (planned [some (.closePos 2), some .finish]) .waitingToIssue .idle (some 0)
     let ok := volts (volts (opened s) 25 0 none) 26 0 none
     (next .pollTimerExpiry (put s 2 closing.pos[2])).eng.poll = some 10 ∧ (next .pollTimerExpiry ok).pos[2].state = .closePulse
      ∧ (next .pollTimerExpiry { ok with eng := { ok.eng with marks := { a := some 7 } } }).eng.poll = none
      ∧ (next .pollTimerExpiry { ok with eng := { ok.eng with marks := { a := some 7 } } }).pos[2].state = .opened)
    ∧ (let s := running (planned [some (.closeSync 2), some .finish]) .waitingToIssue .idle (some 0)
       let ok := busy (volts (volts (opened s) 25 0 none) 26 0 none)
       (next .pollTimerExpiry (put s 2 closing.pos[2])).eng.poll = some 10
        ∧ (next .pollTimerExpiry ok).sync.waits = [⟨2, .engine, none, .auto⟩] ∧ (next .pollTimerExpiry ok).eng.poll = none)
    ∧ (let dead := running (planned [some (.waitDead .a 500), some (.dwell 9), some .finish]) .waiting (.running 70) (some 0)
       (next .pollTimerExpiry dead).eng.poll = some 10 ∧ (next .pollTimerExpiry (volts dead 25 250 none)).eng.stepTimer = .running 9
        ∧ (next .pollTimerExpiry (volts dead 25 251 none)).eng.stepTimer = .running 70)
    ∧ (let gens := running (planned [some (.requireGen 1 500), some (.dwell 9), some .finish]) .waiting (.running 70) (some 0)
       (next .pollTimerExpiry gens).eng.poll = some 10
        ∧ (next .pollTimerExpiry { gens with led := { gens.led with gens := gens.led.gens.set 3 { state := .online } } }).eng.stepTimer
          = .running 9)
    ∧ (let well := running (planned [some (.waitHealthy .ua 500), some (.dwell 9), some .finish]) .waiting (.running 70)
       well.handle .monitorEngine = well
        ∧ (({ well with src := { well.src with ua := { state := .healthy } } } : State).handle .monitorEngine).eng.stepTimer = .running 9)
    ∧ ([Step.waitDead .a 500, .requireGen 1 500, .waitHealthy .ua 500].map fun st =>
        (next .stepTimerExpiry (running (planned [some st, some .finish]) .waiting (.running 0))).eng.result.bind (·.outcome))
      = List.replicate 3 (some (.failed 0 .timeout)) := by decide +kernel

/-- A step that waits begins: its condition standing, or its timers running. -/
theorem test_stepBegins :
    (let s := volts (running (planned [some (.waitDead .a 500), some .finish]) .waitingToIssue) 25 100 none
     s.beginStep.1 = .complete ∧ s.beginStep.2.eng.stepTimer = .idle)
    ∧ (let s := running (planned [some (.requireGen 1 500), some .finish]) .waitingToIssue
       s.beginStep.1 = .waits ∧ s.beginStep.2.eng.stepTimer = .running 500 ∧ s.beginStep.2.eng.poll = some 10)
    ∧ (let s := running (planned [some (.waitHealthy .ub 500), some .finish]) .waitingToIssue
       s.beginStep.1 = .waits ∧ s.beginStep.2.eng.stepTimer = .running 500 ∧ s.beginStep.2.eng.poll = none) := by decide +kernel

/-! ### Section 9 -/

/-- An attempt of GENERATOR class on QG1 in a state of the synchronizer. -/
def attempt (st : SyncState) (md : SyncMode) (a : Attempt) : State :=
  let s := scripted (permit part 5 (.operate 3 (some 1000)))
  { s with sync := { s.sync with state := st, target := some ⟨5, .generator, some 3, md⟩, att := a } }

theorem test_edges :
    (next (.zeroCrossingEdge .zn 7) (attempt .measuring .auto { lastRef := some 0 })).sync.att.period = some 7
    ∧ (next (.zeroCrossingEdge (.zg 0) 7) (attempt .measuring .auto {})).sync.att.edgeRunning = some 100
    ∧ (next (.zeroCrossingEdge (.zg 0) 50) (attempt .measuring .auto { period := some 200, lastRef := some 0 })).sync.att.measCount = 1
    ∧ (next (.zeroCrossingEdge (.zg 0) 50) (attempt .measuring .auto { period := some 200, lastRef := some 0 })).sync.att.meas.map (·.theta)
      = some (-9000)
    ∧ next (.zeroCrossingEdge .zua 7) (attempt .measuring .auto {}) = attempt .measuring .auto {} := by decide +kernel

def still : Measurement := ⟨0, 0, some 0, some 0, some 0, some 0⟩

theorem test_window :
    phaseOf 2000 500 = 27000 ∧ phaseOf 2000 0 = 0 ∧ wrapAngle 27000 = -9000 ∧ wrapAngle 18000 = -18000
    ∧ Settings.builtIn.windowHolds still = true ∧ Settings.builtIn.windowHolds { still with slip := some (-21) } = false
    ∧ Settings.builtIn.windowHolds { still with slip := some (-20), theta := 1000, vdiff := some 50 } = true
    ∧ Settings.builtIn.windowHolds { still with theta := 1001 } = false ∧ Settings.builtIn.windowHolds { still with slip := none } = false
    ∧ (measure 35900 (some { still with phi := 100 }) 2000 80 none).dphi = some (-200)
    ∧ (measure 35900 (some { still with phi := 100 }) 2000 80 none).slip = some (-27) := by decide +kernel

theorem test_judged :
    ((attempt .measuring .auto { measCount := 4 }).judgeMeasurement ⟨5, .generator, some 3, .auto⟩ true).sync.state = .inWindow
    ∧ ((attempt .measuring .auto { measCount := 4 }).judgeMeasurement ⟨5, .generator, some 3, .auto⟩ false).sync.state = .correcting
    ∧ ((attempt .measuring .stepped { measCount := 4 }).judgeMeasurement ⟨5, .generator, some 3, .stepped⟩ true).sync.att.seen = true
    ∧ ((attempt .inWindow .auto { confirm := 1 }).judgeMeasurement ⟨5, .generator, some 3, .auto⟩ true).sync.att.confirm = 2
    ∧ ((attempt .inWindow .auto { confirm := 1 }).judgeMeasurement ⟨5, .generator, some 3, .auto⟩ false).sync.state = .correcting
    ∧ ((attempt .latched .stepped {}).judgeMeasurement ⟨5, .generator, some 3, .stepped⟩ true).sync.state = .waitWindow := by decide +kernel

/-- QG1 ready to close onto a bus N of the same source set: both sides live and the pair enabled. -/
def closable (s : State) : State :=
  let t := volts (volts (opened s) 28 1000 (some 5000)) 27 1000 (some 5000)
  { t with feeds := { t.feeds with n := { gb := true } }, src := { t.src with gb := { state := .healthy } } }

/-- An edge of the running line makes the fourth measurement, which is judged, and one that confirms the window for the third time. -/
theorem test_laterEdges :
    (let a : Attempt := { period := some 2000, lastRef := some 0, measCount := 3, meas := some still }
     (next (.zeroCrossingEdge (.zg 0) 50) (attempt .measuring .auto a)).sync.state = .correcting
      ∧ (next (.zeroCrossingEdge (.zg 0) 50) (attempt .measuring .auto a)).sync.att.measCount = 4
      ∧ (next (.zeroCrossingEdge (.zg 0) 0) (closable (attempt .measuring .auto a))).sync.state = .inWindow
      ∧ (next (.zeroCrossingEdge (.zg 0) 0) (closable (attempt .measuring .stepped a))).sync.state = .waitWindow
      ∧ (next (.zeroCrossingEdge (.zg 0) 0) (closable (attempt .measuring .auto { a with measCount := 2 }))).sync.state = .measuring
      ∧ (next (.zeroCrossingEdge (.zg 0) 0) (closable (attempt .inWindow .auto { a with measCount := 5, confirm := 2 }))).sync.state = .closing
      ∧ (next (.zeroCrossingEdge (.zg 0) 50) (attempt .latched .stepped { a with measCount := 9 })).sync.state = .latched) := by
  decide +kernel

/-- The third confirmation triggers the close, or ends the attempt; CORRECTING takes a measurement within the window to IN_WINDOW. -/
theorem test_confirmed :
    (let u := (closable (attempt .inWindow .auto { confirm := 2 })).judgeMeasurement ⟨5, .generator, some 3, .auto⟩ true
     u.sync.state = .closing ∧ u.sync.att = { confirm := 3 } ∧ u.pos[5].state = .closePulse)
    ∧ (let s := attempt .inWindow .auto { confirm := 2 }
       s.triggerCheck 5 = some .interlock
        ∧ s.judgeMeasurement ⟨5, .generator, some 3, .auto⟩ true = (s.endAttempt .interlock (some (.refusal .interlock))).regrant)
    ∧ (let s := put (closable (attempt .inWindow .auto { confirm := 2 })) 5 { free with state := .faulty }
       (closable s).triggerCheck 5 = none
        ∧ (closable s).judgeMeasurement ⟨5, .generator, some 3, .auto⟩ true
          = ((closable s).endAttempt .interlock (some (.refusal .faulty))).regrant)
    ∧ (let s := permit (attempt .inWindow .auto { confirm := 2 }) 5 .engine
       s.judgeMeasurement ⟨5, .generator, some 3, .auto⟩ true = (s.endAttempt .cancelled none).regrant)
    ∧ ((attempt .correcting .auto { periodTimer := some 7 }).judgeMeasurement ⟨5, .generator, some 3, .auto⟩ true).sync.att = { confirm := 1 }
    ∧ (attempt .correcting .auto { periodTimer := some 7 }).judgeMeasurement ⟨5, .generator, some 3, .auto⟩ false
      = attempt .correcting .auto { periodTimer := some 7 } := by decide +kernel

theorem test_windowConfirmed :
    (let s := closable (attempt .inWindow .auto { confirm := 3 })
     s.syncAuthority ⟨5, .generator, some 3, .auto⟩ = true ∧ s.triggerCheck 5 = none ∧ (next .windowConfirmed s).pos[5].state = .closePulse
      ∧ (next .windowConfirmed s).sync.state = .closing)
    ∧ (next .windowConfirmed (permit (attempt .inWindow .auto { confirm := 3 }) 5 .engine)).sync.outcomes.map (·.outcome) = [.cancelled]
    ∧ (next .windowConfirmed (attempt .inWindow .auto { confirm := 3 })).sync.outcomes.map (·.outcome) = [.interlock] := by decide +kernel

theorem test_attemptTimers :
    (next .attemptTimerExpiry (attempt .correcting .auto { attemptTimer := some 0 })).sync.outcomes.map (·.outcome) = [.timeout]
    ∧ (next (.edgeSupervisionExpiry .running) (attempt .measuring .auto { edgeRunning := some 0 })).sync.outcomes.map (·.outcome)
      = [.lostReference]
    ∧ (next (.edgeSupervisionExpiry .reference) (attempt .waitWindow .auto { edgeReference := some 0 })).led.gens[0].failures = 2
    ∧ (next .periodTimerExpiry (attempt .correcting .auto { periodTimer := some 0, meas := some still })).sync.att.outs
      = { speedRaise := some 200 }
    ∧ (next (.onTimerExpiry .voltLower) (attempt .correcting .auto { outs := { voltLower := some 0, speedRaise := some 4 } })).sync.att.outs
      = { speedRaise := some 4 } := by decide +kernel

theorem test_syncStep :
    (next (.syncStepLatch (sent 3) 5) (attempt .waitWindow .stepped { seen := true })).sync.state = .latched
    ∧ (next (.syncStepLatch (sent 3) 5) (attempt .waitWindow .stepped { seen := true })).sync.att.seen = false
    ∧ codes (next (.syncStepClose (sent 3) 5) (attempt .waitWindow .stepped {})) = [[26]]
    ∧ codes (next (.syncStepClose (sent 3) 5) (closable (attempt .latched .stepped { live := true }))) = [[1]]
    ∧ codes (next (.syncStepClose (sent 1) 5) (attempt .waitWindow .stepped {})) = [[4]]
    ∧ (next (.syncCancel (sent 3) 6) (scripted { part with sync := { part.sync with waits := [⟨6, .master, some 3, .auto⟩] } })).sync.waits = []
    ∧ codes (next (.syncCancel (sent 3) 6) part) = [[29]] := by decide +kernel

/-- READ of SYNC: the counts of the attempt are absent while no target stands. -/
theorem test_syncRead :
    part.sync.bytes.take 8 = [0, 0xFF, 0xFF, 0xFF, 0xFF, 0xFF, 0xFF, 0xFF]
    ∧ ((attempt .inWindow .auto { measCount := 260, confirm := 2 }).sync.bytes.drop 5).take 3 = [1, 4, 2]
    ∧ ([none, some 300000, some 120000, some 119999].map fun t =>
        ((attempt .inWindow .auto { attemptTimer := t }).sync.bytes.drop 34).take 2) = [[255, 255], [1, 44], [0, 120], [0, 119]] := by
  decide +kernel

/-! ### Section 10 -/

def generator (r : GenRec) : State :=
  let s := scripted (opened (permit part 5 (.operate 3 (some 1000))))
  { s with led := { s.led with gens := s.led.gens.set 0 r } }

theorem test_admit :
    codes (next (.genAdmit (sent 3) 1 0) (generator { state := .lockedOut })) = [[15]]
    ∧ codes (next (.genAdmit (sent 3) 1 0) (put (generator { state := .online }) 5 shut)) = [[0]]
    ∧ (next (.genAdmit (sent 3) 1 1) (busy (generator { state := .running }))).sync.waits = [⟨5, .generator, some 3, .stepped⟩]
    ∧ (next (.genAdmit (sent 3) 1 1) (busy (generator { state := .running }))).led.gens[0].state = .waiting
    ∧ (next (.genWithdraw (sent 3) 1) (put (generator { state := .online }) 5 shut)).pos[5].state = .openPulse
    ∧ codes (next (.genWithdraw (sent 1) 1) (generator {})) = [[4]] := by decide +kernel

/-- WITHDRAW of a waiting entry and of the target of an attempt. -/
theorem test_withdraw :
    (let s := { generator { state := .waiting } with sync := { part.sync with waits := [⟨5, .generator, some 3, .auto⟩] } }
     (next (.genWithdraw (sent 3) 1) s).sync.waits = [] ∧ (next (.genWithdraw (sent 3) 1) s).led.gens[0].state = .stopped
      ∧ (next (.genWithdraw (sent 3) 1) s).sync.outcomes.map (·.outcome) = [.cancelled])
    ∧ (let s := { generator { state := .syncing } with
          sync := { part.sync with state := .measuring, target := some ⟨5, .generator, some 3, .auto⟩ } }
       (next (.genWithdraw (sent 3) 1) s).sync.target = none ∧ (next (.genWithdraw (sent 3) 1) s).sync.state = .idle
        ∧ codes (next (.genWithdraw (sent 3) 1) s) = [[0]]) := by decide +kernel

/-- The state of a generator that is not held, and one that is. -/
theorem test_genStates :
    (put (generator {}) 5 shut).freeGenState 0 = .online ∧ (attempt .measuring .auto {}).freeGenState 0 = .syncing
    ∧ ({ generator {} with sync := { part.sync with waits := [⟨5, .generator, some 3, .auto⟩] } } : State).freeGenState 0 = .waiting
    ∧ (volts (generator {}) 28 850 none).freeGenState 0 = .running ∧ (volts (generator {}) 28 849 none).freeGenState 0 = .stopped
    ∧ (volts (generator { state := .lockedOut }) 28 850 none).judgeGen 0 = volts (generator { state := .lockedOut }) 28 850 none
    ∧ ((volts (generator {}) 28 850 none).judgeGen 0).led.gens[0].state = .running := by decide +kernel

/-- Failures charged: below and at 8 and 16, the amounts, the cap, and an outcome to be ignored. -/
theorem test_failures :
    (let r := ((generator { failures := 5 }).chargeOutcome 0 .timeout).led.gens[0]; r.failures = 7 ∧ r.warning = false
      ∧ r.lastFailure = some .syncFail)
    ∧ (let r := ((generator { failures := 6 }).chargeOutcome 0 .closeFail).led.gens[0]; r.failures = 8 ∧ r.warning = true
      ∧ r.lastFailure = some .closeFail)
    ∧ (let r := ((generator { failures := 8, warning := true }).chargeOutcome 0 .done).led.gens[0]; r.failures = 7 ∧ r.warning = false)
    ∧ (generator { failures := 5 }).chargeOutcome 0 .cancelled = generator { failures := 5 }
    ∧ ((generator { failures := 13 }).chargeOutcome 0 .interlock).led.gens[0].state = .stopped
    ∧ ((generator { failures := 14 }).chargeOutcome 0 .lostReference).led.gens[0].state = .lockedOut
    ∧ ((generator { state := .readmit, failures := 254 }).chargeOutcome 0 .timeout).led.gens[0].failures = 255
    ∧ ((generator { state := .readmit, failures := 254 }).chargeOutcome 0 .timeout).led.gens[0].state = .readmit
    ∧ ((generator { failures := 12 }).handle (.tripLedger 5)).led.gens[0].state = .lockedOut
    ∧ ((generator { failures := 11 }).handle (.tripLedger 5)).led.gens[0].failures = 15
    ∧ ((generator { failures := 3, ignoreOutcome := true }).handle (.syncLedger 5 (some .timeout))).led.gens[0].failures = 3 := by
  decide +kernel

theorem test_lockout :
    (next (.generatorLockout 0) (put (generator { state := .online, failures := 16 }) 5 shut)).led.gens[0].state = .lockedOut
    ∧ (next (.generatorLockout 0) (put (generator { state := .online, failures := 16 }) 5 shut)).pos[5].origin = some .ledger
    ∧ (next (.generatorLockout 0) (permit (put (generator { state := .online, failures := 16 }) 5 shut) 5
        (.maintenance 2))).led.gens[0].openBlocked = true
    ∧ (next (.generatorLockout 0) (generator { state := .running, failures := 15 })).led.gens[0].state = .running
    ∧ (next (.readmitComplete 0) (generator { state := .readmit, readmit := 200 })).led.gens[0].state = .stopped
    ∧ (next (.clearLockout (sent 1) 1) (generator { state := .lockedOut, failures := 20, warning := true })).led.gens[0]
      = { state := .readmit } := by decide +kernel

/-- A lockout takes the breaker off the synchronizer: waiting, the target of an attempt, and a target whose pulse runs. -/
theorem test_lockoutWithdraws :
    (let s := waiting (generator { state := .waiting, failures := 16 }) [entryOf 6, entryOf 5]
     (next (.generatorLockout 0) s).sync.waits = [entryOf 6] ∧ (next (.generatorLockout 0) s).led.gens[0].state = .lockedOut
      ∧ (next (.generatorLockout 0) s).sync.outcomes.map (·.outcome) = [.cancelled])
    ∧ (let s := { generator { state := .syncing, failures := 16 } with sync := { state := .correcting, target := some (entryOf 5) } }
       (next (.generatorLockout 0) s).sync.state = .idle ∧ (next (.generatorLockout 0) s).led.gens[0].ignoreOutcome = false
        ∧ (next (.generatorLockout 0) s).led.gens[0].failures = 16)
    ∧ (let s := { generator { state := .syncing, failures := 16 } with sync := { state := .closing, target := some (entryOf 5) } }
       (next (.generatorLockout 0) s).sync = s.sync ∧ (next (.generatorLockout 0) s).led.gens[0].ignoreOutcome = true) := by decide +kernel

/-- A generator that is kept open whose breaker is closing for the synchronizer, after a stop. -/
def stopping : State :=
  let s := put (generator { state := .lockedOut }) 5 { free with state := .closePulse, origin := some .sync, closeTimer := some 40 }
  { s with router := { s.router with stopPending := [5] } }

/-- A position of the stop-pending set leaves its pulse: the open that keeps the breaker open has the drive first, and the stop trip takes it;
an open that completes is locked; other changes, and positions outside the set, are left. -/
theorem test_stopPending :
    (next (.contactChange 5 true false) stopping).pos[5].state = .tripPulse
    ∧ (next (.contactChange 5 true false) stopping).router.stopPending = []
    ∧ (next (.contactChange 5 true false) stopping).router.active[5].map (·.cause) = some .stop
    ∧ (let s := put stopping 5 { shut with state := .openPulse, origin := some .ledger, openTimer := some 90 }
       (s.handle (.posRouter 5 .closePulse)).pos[5].state = .tripPulse ∧ (s.handle (.posRouter 5 .closePulse)).router.stopPending = []
        ∧ s.handle (.posRouter 5 .closed) = s ∧ s.handle (.posRouter 6 .closePulse) = s)
    ∧ (let s := (put stopping 5 free).handle (.posRouter 5 .openPulse)
       s.pos[5].state = .opened ∧ s.pos[5].tripLocked = true ∧ s.router.stopPending = [])
    ∧ (let s := { put stopping 5 { shut with state := .tripPulse, origin := some .trip } with
          router := { stopping.router with active := stopping.router.active.set 5 (some { cause := .iInst, timer := some 9 }) } }
       (s.handle (.posRouter 5 .closePulse)).router.active[5] = some { cause := .iInst, secondary := [.stop], timer := some 9 }) := by
  decide +kernel

/-- A feeder on the stack that fits, at the restore delay. -/
def fitting : State :=
  let s := scripted (opened (put part 11 { free with shed := true }))
  { s with
    feeds := { s.feeds with a := { gb := true } }
    led := { s.led with stack := [12, 11], candidate := some 11, fitCount := 500, fitDue := true }
    set := { s.set with pos := s.set.pos.set 12 ({ fitted := true } : PosSettings) }
    pos := s.pos.set 12 { free with state := .unfitted } }

theorem test_restore :
    fitting.genCandidate = some 11 ∧ fitting.restoreBlock 11 = none ∧ fitting.set.restoreDelay * 100 ≤ fitting.led.fitCount
    ∧ 0 ≤ fitting.headroom ∧ (next .fitCountRestore fitting).pos[11].state = .closePulse ∧ (next .fitCountRestore fitting).led.stack = [12]
    ∧ (next .fitCountRestore fitting).led.spacing = some 2000
    ∧ (next .fitCountRestore (permit fitting 11 (.maintenance 2))).led.lastEvent = some (.restoreBlocked 11 1)
    ∧ (next .spacingTimerExpiry { part with led := { part.led with spacing := some 0 } }).led.spacing = none := by decide +kernel

/-- The fit count rises, saturates and falls to 0; a feeder that has left generator feed is restored with no fit. -/
theorem test_fitCount :
    (let count := fun l : Ledger => ({ fitting with led := l }.judgeFit 0).led.fitCount
     count { fitting.led with fitCount := 6000 } = 6000 ∧ count { fitting.led with fitCount := 7 } = 8
      ∧ count { fitting.led with candidate := none } = 0 ∧ count { fitting.led with candidate := some 13 } = 0
      ∧ count { fitting.led with paused := true } = 0 ∧ count { fitting.led with stack := [12] } = 0)
    ∧ ({ fitting with pos := fitting.pos.set 14 { shut with state := .openPulse, origin := some .ledger } }.judgeFit 0).led.fitCount = 0
    ∧ (fitting.judgeFit (-1)).led.fitCount = 0
    ∧ (let s := { fitting with feeds := { fitting.feeds with a := { ua := true } } }
       s.genCandidate = none ∧ s.utilCandidate = some 11 ∧ s.restoreUtility.pos[11].state = .closePulse
        ∧ s.restoreUtility.led = { s.led with stack := [12], spacing := some 2000, fitCount := 0, fitDue := false
                                              lastEvent := some (.restoreIssued 11) }
        ∧ (permit s 11 (.maintenance 2)).restoreUtility.led.paused = true
        ∧ ({ s with led := { s.led with spacing := some 9 } } : State).restoreUtility.led.stack = [12, 11])
    ∧ fitting.utilCandidate = none ∧ (put fitting 11 { free with bf := true }).restoreBlock 11 = some 3
    ∧ (put fitting 11 { free with state := .faulty }).restoreBlock 11 = some 2
    ∧ ({ fitting with inter := part.inter } : State).restoreBlock 11 = some 4 := by decide +kernel

theorem test_shedWalk : shedWalk (fun _ => 5) 10 [11, 12, 13] 17 = ([11, 12], true) ∧ shedWalk (fun _ => 5) 10 [11] 17 = ([11], false) := by
  decide

/-- Two feeders of a gen-fed section above a capacity. -/
def loaded (demand cap : Nat) : State :=
  let s := put (put (capacity demand) 11 { shut with }) 12 shut
  scripted { s with
    feeds := { part.feeds with a := { gb := true } }
    set := { s.set with ratings := Vector.replicate 6 cap, pos := s.set.pos.set 12 { s.set.pos[12] with demand := demand } } }

/-- The shedding act: as many feeders as are needed, all of them with the unresolved flag when none suffices, and the outcomes. -/
theorem test_shedding :
    (loaded 100 199).headroom = -1 ∧ (loaded 100 200).headroom = 0
    ∧ ((loaded 100 199).shedOverload).pos[11].origin = some .ledger ∧ ((loaded 100 199).shedOverload).pos[12].state = .closed
    ∧ ((loaded 100 199).shedOverload).led.unresolved = false
    ∧ ((permit (loaded 100 99) 12 (.maintenance 1)).shedOverload).led.lastEvent = some .overloadUnresolved
    ∧ ((loaded 100 199).ledgerOutcome 11 .openedDone false).led.stack = [11]
    ∧ ((loaded 100 199).ledgerOutcome 11 .openFail false).led.shedFailed = [11]
    ∧ (loaded 100 199).ledgerOutcome 11 .takenByTrip false = loaded 100 199
    ∧ (loaded 100 199).sheddable 11 = true ∧ (loaded 0 0).sheddable 11 = false
    ∧ ((loaded 100 199).ledgerRound).pos[11].state = .openPulse
    ∧ (let s := { fitting with led := { fitting.led with fitCount := 499, fitDue := false } }
       (s.judgeFit 0).led.fitCount = 500 ∧ (s.judgeFit 0).led.fitDue = true ∧ (s.judgeFit (-1)).led.fitDue = false) := by
  decide +kernel

/-! ### Section 11 -/

/-- The request OPEN of position 11 from node 1, as a frame and as the command. -/
theorem test_frameReceived :
    next (.stationFrameReceived 0 (RawFrame.bytes ⟨1, 1, 5, 1, 0, 11, 0x2A, [11]⟩)) (mine (put part 11 shut) 11)
      = next (.openCmd (sent 1) 11) (mine (put part 11 shut) 11)
    ∧ codes (next (.stationFrameReceived 0 (RawFrame.bytes ⟨1, 1, 5, 0, 0, 38, 0x2A, []⟩)) part) = [[28]]
    ∧ (next (.stationFrameReceived 1 [0, 1, 2]) part).link.ports[1].rx = 1
    ∧ next (.stationFrameReceived 0 (RawFrame.bytes ⟨1, 1, 6, 1, 0, 11, 0x2A, [11]⟩)) part = part := by decide +kernel

/-- Frames whose length field does not fit, too short a body, and payload forms of Table 11.13. -/
def frame (ident : Nat) (payload : List Byte) : List Byte := RawFrame.bytes ⟨1, 1, 5, payload.length, 0, ident, 0x2A, payload⟩

theorem test_frameForms :
    codes (next (.stationFrameReceived 0 (RawFrame.bytes ⟨1, 1, 5, 2, 0, 11, 0x2A, [11]⟩)) part) = [[28]]
    ∧ codes (next (.stationFrameReceived 0 (RawFrame.bytes ⟨1, 1, 5, 11, 0, 11, 0x2A, List.replicate 11 0⟩)) part) = [[28]]
    ∧ (next (.stationFrameReceived 1 (withCheck [0, 1, 2])) { part with link := { part.link with
        ports := part.link.ports.set 1 { rx := 5 } } }).link.ports[1].rx = 4
    ∧ next (.stationFrameReceived 0 (frame 6 [0x15, 3, 0x12, 0x04])) part
      = next (.layerWrite (sent 1) 0 21 [(0, 1), (0, 2), (0, 0)]) part
    ∧ next (.stationFrameReceived 0 (frame 21 [0x7F, 0x12, 0, 0])) part = next (.planWrite (sent 1) 7 15 [⟨1, 2, 0⟩]) part
    ∧ cellsOf [0x12, 0, 0] = some [⟨1, 2, 0⟩]
    ∧ next (.stationFrameReceived 0 (frame 32 [12, 1, 0x07, 0xD0])) part = next (.settingWrite (sent 1) 12 1 [] 2000) part
    ∧ indexWidth 12 = some 0 ∧ SettingKey.groupDead.width = 2
    ∧ next (.stationFrameReceived 0 (frame 33 [3, 0, 11, 0, 0])) part = next (.settingRead (sent 1) 3 0 [11, 0, 0] 0) part
    ∧ next (.stationFrameReceived 0 (frame 27 [5, 1])) part = next (.syncStepClose (sent 1) 5) part
    ∧ next (.stationFrameReceived 0 (frame 3 [0, 0, 5, 1, 1, 30])) part = next (.permitReq (sent 1) 5 1 true 30) part := by
  decide +kernel

/-- A reply waiting, being sent, sent, lost and given up; and an urgent notice before it. -/
theorem test_ports :
    (let s := next (.hold (sent 30)) (scripted held)
     codes s = [[0]] ∧ (next (.linkIdleOffer 0) s).link.ports[0].sending.map (·.source) = some .reply
      ∧ (next (.frameSentCleanly 0) (next (.linkIdleOffer 0) s)).link.ports[0].replies = []
      ∧ (next (.arbitrationLost 0) (next (.linkIdleOffer 0) s)).link.ports[0].kept = some .reply
      ∧ (next (.transmitError 0) (next (.linkIdleOffer 0) s)).link.ports[0].tx = 8
      ∧ (next (.linkIdleOffer 0) (s.raise .trip)).link.ports[0].sending.map (·.source) = some (.notice 0)
      ∧ (next (.frameSentCleanly 0) (next (.linkIdleOffer 0) (s.raise .trip))).link.noticeDue = [1, 2, 3])
    ∧ (let r : PortRec := { tx := 120, sending := some ⟨.reply, 1, 1, 1, 34, some 0, []⟩ }
       (next (.transmitError 1) { part with link := { part.link with ports := part.link.ports.set 1 r } }).link.ports[1].silent = true) := by
  decide +kernel

theorem test_notices :
    (part.raise .mode).link.pendingSets[0] = 0x800 ∧ (part.raise .mode).link.pendingSets[4] = 0
    ∧ (next (.readNotices (sent 1)) (part.raise .mode)).link.pendingSets[0] = 0
    ∧ (next (.readNotices (sent 1)) (part.raise .mode)).link.noticeDue = [1, 2, 3]
    ∧ (let s := next .beaconTimerExpiry { part with link := { part.link with beaconTimer := some 0 } }
       s.link.beaconNumber = 1 ∧ s.link.ports[1].beacons.length = 3
        ∧ s.link.ports[0].beacons.head?.map (·.payload) = some [0x80, 3, 0, 0xF0, 0, 0, 1])
    ∧ codes (next (.readRecord (sent 1) 0 22 0) part) = [[0]] ∧ codes (next (.readRecord (sent 1) 0 23 0) part) = [[28]] := by
  decide +kernel

/-! ### Section 12 -/

theorem test_settingWrite :
    (next (.settingWrite (sent 1) 3 0 [11, 0, 0] 0xFFFF) part).staged = [⟨11, .g1, .instPickup, 65535⟩]
    ∧ (next (.settingWrite (sent 1) 12 1 [] 2000) part).set.groupDead = 2000
    ∧ codes (next (.settingWrite (sent 1) 12 1 [] 2001) part) = [[28]]
    ∧ codes (next (.settingWrite (sent 1) 12 1 [] 2000) { part with base := { part.base with guard := 3 } }) = [[22]]
    ∧ codes (next (.settingWrite (sent 1) 0 0 [11] 0) part) = [[3]]
    ∧ (next (.settingWrite (sent 1) 0 0 [11] 0) (scripted held)).pos[11].state = .unfitted
    ∧ (next (.settingWrite (sent 1) 16 0 [1] 0x07000FFF) held).set.masters[1] = ⟨some 7, .stationA, 0xFFF⟩
    ∧ (part.settingRead 15 0 [] 0).data = [0x01, 0x23, 0x45, 0x67, 0x89, 0xAB] := by decide +kernel

/-- The nominal frequency in the scale of Table 0.9, in two bytes. -/
theorem test_nominalFrequency :
    (part.settingRead 6 0 [] 0).data = [0x13, 0x88] ∧ (next (.settingWrite (sent 1) 6 0 [] 6000) part).set.nominal = 6000
    ∧ codes (next (.settingWrite (sent 1) 6 0 [] 60) part) = [[28]]
    ∧ next (.stationFrameReceived 0 (frame 32 [6, 0, 0x17, 0x70])) part = next (.settingWrite (sent 1) 6 0 [] 6000) part := by
  decide +kernel

/-- SETTING_WRITE of the combine mode is SET_COMBINE's change: a new mode is a layer change for the ledger, the same one is none. -/
theorem test_combineWritten :
    (let s := { part with led := { part.led with paused := true } }
     (next (.settingWrite (sent 1) 9 0 [] 3) s).set.combine = .either ∧ (next (.settingWrite (sent 1) 9 0 [] 3) s).led.paused = false
      ∧ (next (.settingWrite (sent 1) 9 0 [] 2) s).led.paused = true ∧ codes (next (.settingWrite (sent 1) 9 0 [] 2) s) = [[0]]
      ∧ codes (next (.settingWrite (sent 1) 9 0 [] 5) s) = [[28]]
      ∧ codes (next (.settingWrite (sent 1) 9 0 [] 3) { s with base := { s.base with guard := 2 } }) = [[22]]) := by decide +kernel

theorem test_guard : (next (.setGuard (sent 1) 3) part).base.guard = 3 ∧ codes (next (.setGuard (sent 1) 4) part) = [[28]]
    ∧ codes (next (.setGuard (sent 1) 0) { part with base := { part.base with guard := 1 } }) = [[22]] := by decide +kernel

theorem test_save :
    ((next (.save (sent 1)) part).base.save.map (·.bound)) = some (some 400)
    ∧ (next .saveComplete (next (.save (sent 1)) part)).base.image = some part.set
    ∧ codes (next (.save (sent 1)) { part with base := { part.base with save := some ⟨part.set, none⟩ } }) = [[11]]
    ∧ codes (next (.save (sent 1)) { part with base := { part.base with guard := 3 } }) = [[22]]
    ∧ (let s := next .warmReset (next (.save (sent 1)) part)
       s.base.phase = .warmReset ∧ next .saveComplete s = s ∧ (next .saveComplete (next .warmResetEnd s)).base.save = none) := by
  decide +kernel

theorem test_modes :
    (next (.hold (sent 1)) (scripted part)).modes = ⟨.hold, .request, 0⟩ ∧ codes (next (.hold (sent 1)) held) = [[0]]
    ∧ (next (.run (sent 1)) held).modes.mode = .settle
    ∧ codes (next (.run (sent 1)) { held with base := { held.base with stopLine := true } }) = [[23]]
    ∧ codes (next (.run (sent 1)) { held with base := { held.base with settingsInvalid := true } }) = [[24]]
    ∧ codes (next (.run (sent 1)) part) = [[0]]
    ∧ (next .settleComplete { part with modes := { part.modes with mode := .settle, settle := 64 } }).modes.mode = .run
    ∧ ({ part with modes := { part.modes with mode := .settle, settle := 63 } }.settleRound).modes.settle = 0 := by decide +kernel

/-- Every channel present in a round a marker closed. -/
def whole (s : State) : State :=
  { s with meas := { s.meas with chans := Vector.replicate 34 { status := .present }, round := some ⟨true, 0, [], []⟩ } }

/-- The channels a round must cover: those of the sections, of N, and of each fitted position. -/
theorem test_roundComplete :
    (whole held).roundComplete = true
    ∧ (([0, 22, 23, 24, 25, 26, 27, 28, 33] : List Chan).map fun (c : Chan) =>
        ({ whole held with meas := { (whole held).meas with chans := (whole held).meas.chans.set c { status := .absent } } } : State).roundComplete)
      = List.replicate 9 false
    ∧ (let s := put (put (whole held) 0 { free with state := .unfitted }) 5 { free with state := .unfitted }
       (([0, 23, 5, 28] : List Chan).map fun (c : Chan) =>
        ({ s with meas := { s.meas with chans := s.meas.chans.set c { status := .absent } } } : State).roundComplete)
        = List.replicate 4 true)
    ∧ ({ whole held with meas := { (whole held).meas with round := some ⟨false, 0, [], []⟩ } } : State).roundComplete = false := by
  decide +kernel

/-- What entry to HOLD does in the sections it is handed to. -/
theorem test_holdEffects :
    (let s := { mine (permit part 3 (.maintenance 0)) 2 with auth := { (mine (permit part 3 (.maintenance 0)) 2).auth with
        waits := [⟨1, 4, .operate, some 9⟩] } }
     let u := s.handle (.holdAuthority .stop)
     u.auth.waits = [] ∧ u.auth.permits[2] = none ∧ u.auth.news[(0 : MasterIx)].list = [⟨1, .revoked, 4, 8, some .stop⟩]
      ∧ u.auth.news[(1 : MasterIx)].list = [⟨1, .waitCancelled, 4, 0, some .stop⟩])
    ∧ ((waitingGroup held).handle .holdGroup).inter.group = ⟨some 0, .idle, [⟨11, false, .done⟩, ⟨12, true, .cancelled⟩], none⟩
    ∧ (let s := { occupied (some .lossB) with modes := held.modes }
       (s.handle (.holdEngine .request)).eng.state = .idle
        ∧ (s.handle (.holdEngine .request)).eng.lastNot = some (.lossB, .noLongerStands))
    ∧ (let s := { running part .waiting with modes := held.modes }
       (s.handle (.holdEngine .secondFailure)).eng.result.bind (·.outcome) = some (.abandoned .secondFailure))
    ∧ (let s := { attempt .measuring .auto {} with sync := { (attempt .measuring .auto {}).sync with waits := [⟨2, .master, some 0, .auto⟩] } }
       let u := ({ s with modes := held.modes } : State).handle .holdSync
       u.sync.waits = [] ∧ u.sync.target = none ∧ u.sync.outcomes.map (·.outcome) = [.cancelled, .cancelled])
    ∧ ((attempt .closing .auto {}).handle .holdSync).sync.state = .closing := by decide +kernel

/-- The premises of the invariants hold at reset. -/
theorem test_invariants : State.reset.feeds = feedsOf State.reset.pos ∧ State.reset.invalidHolds ∧ changesSupply (.save (sent 1)) = false := by
  decide +kernel

/-! ### Premises: for each statement with hypotheses, a state and operands that meet those of each clause -/

theorem witness_ContactChangeActsOnState :
    closing.base.phase = .running ∧ closing.fitted 2 = true ∧ closing.set.pos[2].fitted = true
    ∧ decodeContacts true false ≠ closing.pos[2].feedback ∧ samePositionsBut 2 (next (.contactChange 2 true false) closing) closing
    ∧ (put part 2 { free with state := .unfitted }).fitted 2 = false := by decide +kernel

theorem witness_SupervisionExpiryMakesFaulty :
    (let s := put part 2 { closing.pos[2] with travelTimer := some 0, discTimer := some 0 }
     s.pos[2].state.supervised = true ∧ s.set.pos[2].fitted = true ∧ s.pos[2].travelTimer = some 0 ∧ s.pos[2].discTimer = some 0
      ∧ s.pos[2].origin = some .master ∧ faultyAtRest (s.travelExpiry 2).pos[2] ∧ samePositionsBut 2 (s.travelExpiry 2) s) := by
  decide +kernel

theorem witness_PulseRecoveryAndFitting :
    (let s := put part 2 { shut with state := .faulty, recTimer := some 0 }
     s.pos[2].state = .faulty ∧ s.pos[2].recTimer = some 0 ∧ s.pos[2].feedback.valid = true)
    ∧ closing.pos[2].state = .closePulse ∧ closing.pos[2].closeTimer = some 0 ∧ closing.set.pos[2].fitted = true
    ∧ opening.pos[2].state = .openPulse ∧ opening.pos[2].openTimer = some 0 ∧ opening.set.pos[2].fitted = true
    ∧ unfitting.set.pos[2].fitted = false ∧ unfitting.pos[2].state.inFlight = true ∧ unfitting.pos[2].closeTimer = some 0 := by
  decide +kernel

theorem witness_BoundariesAndMeasLost :
    parseMeas (withCheck [1]) = some .marker ∧ filled.meas.slots[23] ≠ none ∧ (∀ c : Chan, part.meas.slots[c] = none)
    ∧ filled.base.phase = .running ∧ boundaryMade filled true (filled.boundary true)
    ∧ (let s := { part with meas := { part.meas with chans := part.meas.chans.set 7 ⟨.absent, 3, none⟩ } }
       s.meas.chans[7].absence = 3 ∧ s.meas.chans[7].status ≠ .measLost) := by decide +kernel

theorem witness_ClaimGrantedOrWaiting :
    permitKindOf 0 = some .operate ∧ permitKindOf 1 = some .maintenance ∧ part.modes.mode = .run
    ∧ (∀ p ∈ posMembers 0x400001, (part.roleOf 0).mayHold .operate p = true ∧ part.fitted p = true ∧ part.grantable 0 .operate p = true)
    ∧ (∀ p ∈ posMembers 0x000004, ((mine part 2).roleOf 1).mayHold .operate p = true ∧ (mine part 2).fitted p = true)
    ∧ (∃ p ∈ posMembers 0x000004, (mine part 2).grantable 1 .operate p = false) ∧ (mine part 2).hears (sent 2) 1
    ∧ part.auth.waits = [] := by decide +kernel

theorem witness_LeaseAndWaitExpiryWithNews :
    (permit part 2 (.operate 0 (some 0))).auth.permits[2] = some (.operate 0 (some 0))
    ∧ (let e : WaitEntry := ⟨1, 8, .operate, some 0⟩
       let s := { part with auth := { part.auth with waits := [e] } }
       e ∈ s.auth.waits ∧ e.wait = some 0 ∧ ∀ x ∈ s.auth.waits, x.requester = e.requester → x = e) := by decide +kernel

theorem witness_WaitListScan :
    (let e : WaitEntry := ⟨1, 0x0C, .operate, some 9⟩
     let y : WaitEntry := ⟨2, 0x08, .operate, some 9⟩
     let s := { mine part 2 with auth := { (mine part 2).auth with waits := [e, y] } }
     s.auth.waits = [] ++ e :: [] ++ y :: [] ∧ (s.auth.waits.map (·.requester)).Nodup ∧ e.mask &&& y.mask ≠ 0
      ∧ e ∈ s.scan.auth.waits ∧ y ∈ s.scan.auth.waits) := by decide +kernel

theorem witness_ElementOperates :
    (let r := (ready { pickup := true, count := 200 }).prot.recs[5]
     (ready { pickup := true, count := 200 }).fitted 5 = true ∧ r.frozen = false
      ∧ (∀ e ∈ [Element.inst, .ground, .reversePower], (r.elem e).pickup = true ∧ (r.elem e).operated = false ∧ 200 ≤ (r.elem e).count)
      ∧ part.set.pos[5].g1.groundDelay = 20 ∧ part.set.pos[5].g1.revDelay = 200)
    ∧ ((ready { pickup := true, count := 60000 }).prot.recs[5].elem .time).count = 60000 := by decide +kernel

theorem witness_accumulatorBelowPickup :
    (let s := amps (ready { count := 9 }) 5 (.genCurrent 119 0 false 0)
     s.fitted 5 = true ∧ s.prot.recs[5].frozen = false ∧ s.entry (currentChan 5) = some (.genCurrent 119 0 false 0)
      ∧ s.prot.recs[5].time.pickup = false) := by decide +kernel

theorem witness_StopAndUpstreamLines :
    (5 : Pos) ∈ stopping.router.stopPending ∧ stopping.pos[5].state ≠ .closed
    ∧ (put stopping 5 shut).pos[5].state = .closed ∧ (put stopping 5 free).pos[5].feedback = .opened
    ∧ (put stopping 5 { free with state := .faulty }).pos[5].state = .faulty ∧ (6 : Pos) ∉ stopping.router.stopPending
    ∧ part.base.phase = .running ∧ part.base.stopLine = false := by decide +kernel

theorem witness_ElementsAtTheBoundary : 0 < (({} : ElemSettings).timePickup) ∧ ({} : ElemSettings).timePickup ≤ 120 ∧ ({} : ElemSettings).curve ≤ 3
    ∧ bandOf 120 120 = 0 ∧ bandOf 131 120 = 0 ∧ bandOf 132 120 = 1 ∧ bandOf 2400 120 = 15 := by decide

theorem witness_TripRequestByState :
    tripBegun (put part 11 shut) ((put part 11 shut).tripPlain 11 .stop none) 11 .stop none
    ∧ tripBegun opening (opening.tripPlain 2 .overlap none) 2 .overlap none
    ∧ tripping.pos[11].state = .tripPulse ∧ tripping.router.active[11] = some { cause := .iInst, timer := some 0 } := by
  unfold tripBegun
  refine ⟨⟨?_, ?_, ?_, ?_, ?_, ?_, ?_, ?_, ?_, ?_, ⟨some 0, ?_⟩, ?_, ?_, ?_, ?_⟩,
    ⟨?_, ?_, ?_, ?_, ?_, ?_, ?_, ?_, ?_, ?_, ⟨some 0, ?_⟩, ?_, ?_, ?_, ?_⟩, ?_⟩ <;> decide +kernel

theorem witness_BreakerFailureAndBackups :
    tripping.router.active[11] = some { cause := .iInst, timer := some 0 } ∧ tripping.pos[11].state = .tripPulse
    ∧ tripping.set.pos[11].fitted = true ∧ tripping.pos[11].feedback ≠ .opened := by decide +kernel

theorem witness_LayersAndCombineMode :
    part.roleOf 0 = .stationA ∧ part.roleOf 1 = .stationB ∧ (staging part).inter.layerA.staging ≠ none ∧ part.inter.layerB.staging = none
    ∧ part.base.guard < 2 ∧ part.set.combine = .both := by decide +kernel

theorem witness_OpenAndCloseCommands :
    (let s := mine (put part 11 shut) 11
     s.hears (sent 1) 0 ∧ s.modes.mode = .run ∧ s.roleOf 0 ≠ .view ∧ s.holds 0 11 = true ∧ s.openPermitted 11 = true
      ∧ pulseBegun s (s.startOpen 11 .master (some 0)) 11 false .master (some 0))
    ∧ (let s := opened (mine part 11)
       s.closePermitted 11 = true ∧ s.parallelRule 11 false = none ∧ s.capacityCheck 11 0 = none
        ∧ pulseBegun s (s.startClose 11 .master (some 0)) 11 true .master (some 0))
    ∧ (barred (mine (put part 11 shut) 11)).openPermitted 11 = false ∧ (barred (mine part 2)).closePermitted 2 = false
    ∧ (opened (mine part 2)).parallelRule 2 false = some .residual ∧ (opened (mine (sides 850 850) 2)).parallelRule 2 false = some .parallel
    ∧ (opened (mine (capacity 101) 11)).parallelRule 11 false = none ∧ (opened (mine (capacity 101) 11)).capacityCheck 11 0 ≠ none
    ∧ viewer.hears (sent 3) 3 ∧ viewer.roleOf 3 = .view ∧ held.modes.mode ≠ .run ∧ part.holds 0 11 = false := by decide +kernel

theorem witness_GroupSwitchAccepted :
    grouped.hears (sent 1) 0 ∧ grouped.inter.group.phase = .idle ∧ grouped.pos[11].state = .closed
    ∧ grouped.groupCheck 0 (maskOf [11]) ⟨11, false, .pending⟩ = none
    ∧ grouped.groupCheck 0 (maskOf []) ⟨12, true, .pending⟩ = none ∧ grouped.groupCheck 0 (maskOf [12]) ⟨12, false, .pending⟩ = none
    ∧ grouped.pos[12].state = .opened ∧ grouped.set.groupDead ≠ 0
    ∧ grouped.groupCheck 0 (maskOf [11, 12, 13]) ⟨13, false, .pending⟩ = some .notHeld
    ∧ (groupAt .opening [⟨11, false, .issued⟩]).inter.group.list = [] ++ ⟨11, false, .issued⟩ :: []
    ∧ (waitingGroup grouped).inter.group.phase = .deadTime ∧ (waitingGroup grouped).inter.group.dead = some 0 := by decide +kernel

theorem witness_GroupJoinsAndOverlaps :
    (let s := waitingGroup grouped
     s.inter.group = ⟨some 0, .deadTime, [⟨11, false, .done⟩] ++ ⟨12, true, .pending⟩ :: [], some 0⟩ ∧ s.holds 0 12 = true
      ∧ s.closePermitted 12 = true ∧ s.parallelRule 12 false = none ∧ s.capacityCheck 12 0 = none ∧ s.pos[12].state = .opened)
    ∧ (waitingGroup held).modes.mode ≠ .run ∧ (joined shut).inter.joins.get .uaUb = some ⟨2, some 0⟩ := by decide +kernel

theorem witness_CloseSyncJoins :
    oneDead.hears (sent 1) 0 ∧ oneDead.modes.mode = .run ∧ oneDead.roleOf 0 ≠ .view ∧ oneDead.holds 0 2 = true ∧ oneDead.closePermitted 2 = true
    ∧ oneDead.sync.state = .idle ∧ oneDead.sync.target = none ∧ oneDead.sync.waits = [] ∧ oneDead.deadBus 2 = true
    ∧ pulseBegun oneDead (oneDead.startClose 2 .sync none) 2 true .sync none
    ∧ (∀ p ∈ ([2, 3, 5] : List Pos), (sidesOf twoOnDead.feeds p).isSome = true) ∧ twoOnDead.triggerCheck 5 = none
    ∧ twoOnDead.syncAuthority (entryOf 5) = true ∧ part.syncAuthority (entryOf 5) = false ∧ twoOnDead.pos[5].state = .opened
    ∧ ([entryOf 5, entryOf 6].find? (fun x => x.cls == .engine)) = none := by decide +kernel

theorem witness_ScenariosAndAutoTransfer :
    part.modes.mode = .run ∧ part.hears (sent 2) 1 ∧ part.roleOf 1 = .stationB ∧ part.src.auto = false
    ∧ (occupied none).eng.state ≠ .idle ∧ (occupied none).eng.pendingSc = none ∧ (occupied (some .returnA)).eng.pendingSc = some .returnA
    ∧ (let s := lossA [some (.openPos 2), some .finish]
       s.eng.state = .idle ∧ Plan.runnable s.set.plans[1] = true ∧ (2 : Pos) ∈ posMembers (Plan.posSet s.set.plans[1])
        ∧ s.auth.permits[2] = none ∧ (permit s 2 (.maintenance 1)).auth.permits[2] = some (.maintenance 1))
    ∧ Plan.runnable (lossA []).set.plans[1] = false ∧ (again (lossA []) .lossA).stands .lossA = some 1
    ∧ (again (lossA []) .lossB).stands .lossB = none := by decide +kernel

theorem witness_MonitorTransitions :
    (monitor ⟨.failing, 0, .running 0, false⟩ 800).src.ua = ⟨.failing, 0, .running 0, false⟩
    ∧ (monitor ⟨.unstable, 30000, .idle, false⟩ 1000).roundClass .ua = .inBand
    ∧ (monitor ⟨.unstable, 30000, .idle, false⟩ 1000).set.returnStab.get .ua * 100 ≤ 30000
    ∧ { part with feeds := { part.feeds with n := { gb := true } } }.feeds.n.gb = true := by decide +kernel

theorem witness_PlanStoreWrites :
    [(⟨1, 2, 0⟩ : RawStep), ⟨8, 0, 0⟩].mapM stepOf = some [.openPos 2, .finish] ∧ part.eng.run = none ∧ part.base.guard < 2
    ∧ part.set.plans[7][(15 : CellIx) + Fin.ofNat 16 1] = none ∧ (planned [some .finish]).set.plans[1][(0 : CellIx)] ≠ none := by
  decide +kernel

theorem witness_PlanStartMakesTheStart :
    (let s := put (planned [some (.openPos 2), some .finish]) 2 shut
     s.hears (sent 1) 0 ∧ s.roleOf 0 = .stationA ∧ s.modes.mode = .run ∧ s.eng.state = .idle ∧ Plan.runnable s.set.plans[1] = true
      ∧ Plan.posSet s.set.plans[1] = 4 ∧ s.auth.permits[2] = none)
    ∧ Plan.runnable part.set.plans[1] = false := by decide +kernel

theorem witness_PlanSuspendResumeAbandon :
    (let s := { running part .halted with eng := { (running part .halted).eng with state := .suspended } }
     s.eng.state = .suspended ∧ s.modes.mode = .run ∧ s.eng.result.map (·.cause) = some (.master 0) ∧ s.eng.pendingSc = none) := by
  decide +kernel

theorem witness_EngineTimersAndSteps :
    (let s := running (planned [some (.closePos 2), some .finish]) .waitingToIssue .idle none { a := some 0 }
     s.eng.marks.get .a = some 0 ∧ (∀ side ∈ sideBuses 2, side ≠ .a → s.eng.marks.get side = none) ∧ s.pos[2].state = .opened)
    ∧ (let s := running (planned [some (.dwell 10), some .finish]) .waiting (.running 0)
       s.eng.stepTimer = .running 0 ∧ s.set.plans[1][(0 : CellIx)] = some (.dwell 10))
    ∧ (Step.waitDead .a 5).awaits = some (5, some 10) ∧ (Step.requireGen 1 5).awaits = some (5, some 10)
    ∧ (Step.waitHealthy .ua 5).awaits = some (5, none)
    ∧ (let s := running (planned [some (.closeSync 2), some .finish]) .waitingToIssue .idle (some 0)
       let ok := busy (volts (volts (opened s) 25 0 none) 26 0 none)
       ok.engCloseChecks 2 true = none ∧ ok.engCloseChecks 2 false = none ∧ ok.sync.state ≠ .idle ∧ ok.sync.target.map (·.pos) = some 4
        ∧ ok.sync.waits.length < 8 ∧ ∀ side ∈ sideBuses 2, ok.eng.marks.get side = none) := by decide +kernel

theorem witness_awaitedStands :
    awaitedStands (volts part 25 250 none) (.waitDead .a 5) ∧ ¬ awaitedStands part (.waitDead .a 5) ∧ ¬ awaitedStands part (.requireGen 1 5)
    ∧ awaitedStands (put part 5 shut) (.requireGen 0 5) ∧ ¬ awaitedStands part (.waitHealthy .ua 5)
    ∧ awaitedStands { part with src := { part.src with ua := { state := .healthy } } } (.waitHealthy .ua 5) := by
  unfold awaitedStands
  refine ⟨⟨fun m => by cases m <;> decide +kernel, 250, ⟨by decide +kernel, none, 0, by decide +kernel⟩, by decide⟩, ?_, ?_, ?_, ?_, ?_⟩
  · rintro ⟨-, v, ⟨h, -⟩, -⟩; revert h; decide +kernel
  all_goals decide +kernel

theorem witness_MeasurementsAndTheirJudgement :
    (let s := closable (attempt .inWindow .auto { confirm := 2 })
     let e : SyncEntry := ⟨5, .generator, some 3, .auto⟩
     s.sync.target = some e ∧ s.syncAuthority e = true ∧ s.triggerCheck 5 = none ∧ s.pos[5].state = .opened ∧ s.modes.mode = .run
      ∧ pulseBegun s (s.startClose 5 .sync none) 5 true .sync none) := by decide +kernel

theorem witness_GeneratorStatesAndFailures :
    (let s := waiting (generator { state := .waiting, failures := 16 }) [entryOf 6, entryOf 5]
     16 ≤ s.led.gens[0].failures ∧ s.led.gens[0].state ≠ .lockedOut ∧ s.led.gens[0].state ≠ .readmit ∧ s.sync.target = none
      ∧ s.sync.waits.find? (fun w => w.pos == genPos 0) = some (entryOf 5))
    ∧ (entryOf 5).pos = genPos 0 ∧ (generator { ignoreOutcome := true }).led.gens[0].ignoreOutcome = true
    ∧ pulseBegun (put (generator { state := .readmit }) 5 shut) ((put (generator { state := .readmit }) 5 shut).keepOpen 0) 5 false .ledger
        none := by decide +kernel

theorem witness_EdgesMakeMeasurements :
    (let s := attempt .measuring .auto { period := some 200, lastRef := some 0, measCount := 2 }
     s.sync.target.map (·.pos) = some 5 ∧ s.base.phase = .running ∧ referenceLine 5 = some .zn ∧ runningLine 5 = some (.zg 0)
      ∧ s.sync.att.measCount < 3 ∧ s.sync.state ≠ .closing)
    ∧ (let s := closable (attempt .inWindow .auto { period := some 2000, lastRef := some 0, measCount := 5, confirm := 2 })
       s.sync.target = some ⟨5, .generator, some 3, .auto⟩ ∧ s.sync.att.period = some 2000 ∧ s.sync.state = .inWindow) := by decide +kernel

theorem witness_WindowConfirmedTriggers :
    (let s := closable (attempt .inWindow .auto { confirm := 3 })
     s.pos[5].state = .opened ∧ s.modes.mode = .run ∧ pulseBegun s (s.startClose 5 .sync none) 5 true .sync none) := by decide +kernel

theorem witness_AttemptTimers :
    (attempt .correcting .auto { attemptTimer := some 0 }).sync.state ≠ .idle
    ∧ (attempt .correcting .auto { attemptTimer := some 0 }).sync.att.attemptTimer = some 0
    ∧ (let s := attempt .correcting .auto { outs := { speedRaise := some 0 }, periodTimer := some 0 }
       s.sync.state = .correcting ∧ s.sync.att.periodTimer = some 0 ∧ s.sync.att.outs.get .speedRaise = some 0)
    ∧ (let s := attempt .correcting .auto { outs := { speedRaise := some 0 }, periodTimer := some 40 }
       s.sync.att.periodTimer ≠ some 0 ∧ s.sync.att.outs.get .speedRaise = some 0)
    ∧ part.sync.state = .idle ∧ part.sync.waits = [] := by decide +kernel

theorem witness_SyncStepAndCancel :
    (let s := closable (attempt .latched .stepped { live := true })
     s.hears (sent 3) 3 ∧ s.sync.target = some ⟨5, .generator, some 3, .stepped⟩ ∧ s.holds 3 5 = true ∧ s.triggerCheck 5 = none
      ∧ s.sync.att.live = true)
    ∧ [(⟨6, .master, some 3, .auto⟩ : SyncEntry)].find? (fun x => x.pos == 6) = some ⟨6, .master, some 3, .auto⟩ := by decide +kernel

theorem witness_AdmitAndWithdraw :
    (let s := busy (generator { state := .running })
     s.hears (sent 3) 3 ∧ s.roleOf 3 = .gen 0 ∧ s.auth.permits[genPos 0] = some (.operate 3 (some 1000)) ∧ s.closePermitted 5 = true
      ∧ s.sync.state ≠ .idle ∧ s.sync.waits.length < 8)
    ∧ (generator { state := .online }).openPermitted 5 = true := by decide +kernel

theorem witness_RestoreAndSpacing :
    fitting.led.candidate = some 11 ∧ fitting.modes.mode = .run ∧ fitting.led.paused = false ∧ fitting.led.spacing = none ∧ fitting.led.fitDue = true
    ∧ fitting.pos[11].state = .opened ∧ (permit fitting 11 (.maintenance 2)).restoreBlock 11 = some 1 := by decide +kernel

theorem witness_FramesReceived :
    parseFrame [0, 1, 2] = none ∧ (part.updPort 0 PortRec.good).hears ⟨0, 1, 0x2A⟩ 0
    ∧ parseFrame (RawFrame.bytes ⟨1, 1, 5, 0, 0, 0, 0x2A, []⟩) = some ⟨1, 1, 5, 0, 0, 0, 0x2A, []⟩
    ∧ parseFrame (RawFrame.bytes ⟨1, 1, 5, 0, 0, 37, 0x2A, []⟩) = some ⟨1, 1, 5, 0, 0, 37, 0x2A, []⟩ := by decide +kernel

theorem witness_PortEvents :
    (let s := next (.hold (sent 30)) (scripted held)
     s.base.phase = .running ∧ s.base.node ≠ 31 ∧ s.link.ports[0].silent = false ∧ s.link.ports[0].sending = none
      ∧ s.offerFrame 0 = s.link.ports[0].replies.head?.map Reply.frame ∧ s.link.noticesOn 0 = []
      ∧ (s.raise .trip).link.noticesOn 0 = [0, 1, 2, 3] ∧ urgentSet (s.raise .trip).link.pendingSets[0] = true)
    ∧ part.offerFrame 0 = none := by decide +kernel

theorem witness_SettingsAndGuard :
    keyOf 3 0 [11, 0, 0] = some (.elem 11 .g1 .instPickup) ∧ keyOf 12 1 [] = some .groupDead ∧ keyOf 0 0 [11] = some (.fitted 11)
    ∧ (part.set.put .groupDead 2000).isSome = true ∧ (part.set.put (.elem 11 .g1 .instPickup) 100).isSome = true
    ∧ keyOf 9 0 [] = some .combine ∧ part.set.put .combine 3 = some { part.set with combine := .either }
    ∧ part.base.guard < SettingKey.combine.guardLevel ∧ part.base.guard < SettingKey.groupDead.guardLevel ∧ held.modes.mode = .hold := by decide +kernel

theorem witness_SaveAndModes :
    part.roleOf 2 = .maint ∧ part.base.save = none ∧ part.modes.mode ≠ .hold ∧ held.base.stopLine = false
    ∧ ({ held with modes := { held.modes with mode := .settle, settle := 62 } }).roundComplete = false
    ∧ (let full := { held with meas := { held.meas with
          chans := Vector.replicate 34 { status := .present }, round := some ⟨true, 0, [], []⟩ } }
       full.roundComplete = true
        ∧ ({ full with modes := { full.modes with mode := .settle, settle := 62 } }).settleRound.modes.settle = 63
        ∧ ({ full with modes := { full.modes with mode := .settle, settle := 63 } }).settleRound.modes.mode = .run) := by
  decide +kernel

end Sys2Proof.Tests
end

/-! SUPPORT. The statements of Section 2: the clock and the calm state, how a measurement frame is read, and what a boundary leaves. First
the rules of each operation of the codec, the port and the clock, then the statements from them. -/

namespace Sys2Proof.Machine.Rounds

/-! ### The clock (R33, log 1) -/

/-- Putting the expiries due behind the queue leaves the base. -/
theorem queueDue_base (s : State) : s.queueDue.base = s.base :=
  congrArg Prod.fst (anyOrder_outer s s.dueCommands)

/-- Without power a millisecond passes unnoticed. -/
theorem tick_off {s : State} (h : s.base.phase = .off) : s.tick = s := by
  simp only [State.tick, h]

/-- With power a millisecond moves the base, during a warm reset as in operation. -/
theorem tick_base {s : State} (h : s.base.phase ≠ .off) : s.tick.base = s.base.tick := by
  unfold State.tick
  split
  case h_1 hoff => exact absurd hoff h
  case h_2 => exact queueDue_base s.tickKept
  case h_3 => exact queueDue_base s.tickAll

/-- With no command waiting, a step is a millisecond. -/
theorem step_idle {s : State} (h : s.pending = []) : step s = .next s.tick := by
  simp only [step, h]

/-- Settles O2, from the rules of the idle step and of the millisecond. -/
theorem idleStepAndCalmState : Obligations.IdleStepAndCalmState := by
  unfold Obligations.IdleStepAndCalmState
  refine ⟨fun s hp => ⟨step_idle hp, tick_off, fun hon => ?_⟩, fun s ⟨hinbox, hlock⟩ => finish_calm hinbox hlock⟩
  rw [tick_base hon]
  rfl

/-! ### Bytes and their check (R192) -/

theorem be_two (n : Nat) : be 2 n = [BitVec.ofNat 8 (n / 256), BitVec.ofNat 8 n] := by simp [be]

/-- Two bytes spell the number they were made from. -/
theorem pair_of_bytes {n : Nat} (h : n < 65536) : pair (BitVec.ofNat 8 (n / 256)) (BitVec.ofNat 8 n) = n := by
  simp only [pair, BitVec.toNat_ofNat]
  omega

theorem withCheck_length (body : List Byte) : (withCheck body).length = body.length + 2 := by
  simp [withCheck, be_two]

/-- A check written is a check that matches. -/
theorem checked_withCheck (body : List Byte) : checked (withCheck body) = some body := by
  have htake : (withCheck body).take ((withCheck body).length - 2) = body := by
    rw [withCheck_length, Nat.add_sub_cancel]
    exact List.take_left
  have hlength : 2 ≤ (withCheck body).length := by simp [withCheck_length]
  exact (if_pos ⟨hlength, congrArg withCheck htake⟩).trans (congrArg some htake)

/-- Bytes that no body makes with its check fail the check. -/
theorem checked_none {bytes : List Byte} (h : ∀ body, bytes ≠ withCheck body) : checked bytes = none :=
  if_neg fun hc => h _ hc.2.symm

/-! ### Reading a measurement frame (Table 11.10) -/

theorem parseMeas_withCheck (body : List Byte) : parseMeas (withCheck body) = measOfBody body := by
  rw [parseMeas, checked_withCheck, Option.bind_some]

theorem parseMeas_bad_check {bytes : List Byte} (h : ∀ body, bytes ≠ withCheck body) : parseMeas bytes = none := by
  rw [parseMeas, checked_none h, Option.bind_none]

/-- A byte that names a channel below 34 is the byte of that channel. -/
theorem finOf_chan_iff {x : Byte} {c : Chan} : finOf 34 x.toNat = some c ↔ x = BitVec.ofNat 8 c.val := by
  have hc : c.val < 256 := by omega
  constructor
  · intro h
    obtain ⟨-, rfl⟩ : ∃ hx : x.toNat < 34, ⟨x.toNat, hx⟩ = c := by simpa [finOf] using h
    simp
  · rintro rfl
    simp [finOf, Nat.mod_eq_of_lt hc]

/-- A frame of four field bytes: a voltage of a channel from 23, nothing of a generator channel, and a current of any other. -/
theorem measOfBody_four_fields (c : Chan) (a b d e : Byte) :
    measOfBody [0, BitVec.ofNat 8 c.val, a, b, d, e]
      = if 23 ≤ c.val then some (.data c (voltageValues (pair a b) (pair d e)))
        else if 5 ≤ c.val ∧ c.val ≤ 10 then none
        else some (.data c (currentValues (pair a b) (pair d e))) := by
  change measOfBody [0#8, _, _, _, _, _] = _
  rw [measOfBody, finOf_chan_iff.2 rfl, Option.bind_some]

/-- A frame of seven field bytes: a current and a power of a generator channel, when the direction byte is one. -/
theorem measOfBody_seven_fields (c : Chan) (a b d e dir f g : Byte) :
    measOfBody [0, BitVec.ofNat 8 c.val, a, b, d, e, dir, f, g]
      = if 5 ≤ c.val ∧ c.val ≤ 10 then
          (directionOf dir).map fun r => .data c (genCurrentValues (pair a b) (pair d e) r (pair f g))
        else none := by
  change measOfBody [0#8, _, _, _, _, _, _, _, _] = _
  rw [measOfBody, finOf_chan_iff.2 rfl, Option.bind_some]

/-- All that a body can spell: the marker, or a data frame of its channel with the kind byte 0 and as many fields as the channel has. -/
theorem measOfBody_cases {body : List Byte} {frame : MeasFrame} (h : measOfBody body = some frame) :
    (frame = .marker ∧ body = [1])
    ∨ ∃ c v, frame = .data c v
        ∧ ((∃ a b d e, body = [0, BitVec.ofNat 8 c.val, a, b, d, e] ∧ ¬ (5 ≤ c.val ∧ c.val ≤ 10))
          ∨ ∃ a b d e dir f g, body = [0, BitVec.ofNat 8 c.val, a, b, d, e, dir, f, g] ∧ 5 ≤ c.val ∧ c.val ≤ 10) := by
  unfold measOfBody at h
  split at h
  case h_1 => exact .inl ⟨(Option.some.inj h).symm, rfl⟩
  case h_2 x a b d e =>
    obtain ⟨c, hx, hv⟩ := Option.bind_eq_some_iff.1 h
    obtain rfl := finOf_chan_iff.1 hx
    split at hv
    case isTrue hvolt => exact .inr ⟨c, _, (Option.some.inj hv).symm, .inl ⟨a, b, d, e, rfl, by omega⟩⟩
    case isFalse =>
      split at hv
      case isTrue => cases hv
      case isFalse hgen => exact .inr ⟨c, _, (Option.some.inj hv).symm, .inl ⟨a, b, d, e, rfl, hgen⟩⟩
  case h_3 x a b d e dir f g =>
    obtain ⟨c, hx, hv⟩ := Option.bind_eq_some_iff.1 h
    obtain rfl := finOf_chan_iff.1 hx
    split at hv
    case isTrue hgen =>
      obtain ⟨r, -, hframe⟩ := Option.map_eq_some_iff.1 hv
      exact .inr ⟨c, _, hframe.symm, .inr ⟨a, b, d, e, dir, f, g, rfl, hgen⟩⟩
    case isFalse => cases hv
  case h_4 => cases h

theorem measOfBody_marker_iff {body : List Byte} : measOfBody body = some .marker ↔ body = [1] := by
  constructor
  · intro h
    obtain ⟨-, hbody⟩ | ⟨c, v, hframe, -⟩ := measOfBody_cases h
    · exact hbody
    · cases hframe
  · rintro rfl
    rfl

/-- A data frame has the kind byte 0, the byte of its channel, and the length of its channel's kind. -/
theorem measOfBody_data_shape {body : List Byte} {c : Chan} {v : Values} (h : measOfBody body = some (.data c v)) :
    body.length = (if 5 ≤ c.val ∧ c.val ≤ 10 then 9 else 6) ∧ body.take 2 = [0, BitVec.ofNat 8 c.val] := by
  obtain ⟨hmarker, -⟩ | ⟨c', v', hframe, hbody⟩ := measOfBody_cases h
  · cases hmarker
  · cases hframe
    obtain ⟨a, b, d, e, rfl, hgen⟩ | ⟨a, b, d, e, dir, f, g, rfl, hgen⟩ := hbody
    · exact ⟨(if_neg hgen).symm, rfl⟩
    · exact ⟨(if_pos hgen).symm, rfl⟩

/-- The direction byte is 0 for forward and 1 for reverse. -/
theorem directionOf_byte (reverse : Bool) : directionOf (if reverse then 1 else 0) = some reverse := by
  cases reverse <;> rfl

theorem directionOf_other {d : Byte} (h0 : d ≠ 0) (h1 : d ≠ 1) : directionOf d = none := by
  rw [directionOf, if_neg h0, if_neg h1]

/-- A frame of two fields as its bytes are read back. -/
theorem parseMeas_two_fields (c : Chan) {a b : Nat} (ha : a < 65536) (hb : b < 65536) :
    parseMeas (withCheck (0 :: BitVec.ofNat 8 c.val :: (be 2 a ++ be 2 b)))
      = if 23 ≤ c.val then some (.data c (voltageValues a b))
        else if 5 ≤ c.val ∧ c.val ≤ 10 then none
        else some (.data c (currentValues a b)) := by
  rw [parseMeas_withCheck, be_two, be_two]
  refine (measOfBody_four_fields c _ _ _ _).trans ?_
  rw [pair_of_bytes ha, pair_of_bytes hb]

/-- A frame of a generator channel as its bytes are read back. -/
theorem parseMeas_generator {c : Chan} (hc : 5 ≤ c.val ∧ c.val ≤ 10) {a b w : Nat} (ha : a < 65536) (hb : b < 65536) (hw : w < 65536)
    (d : Byte) :
    parseMeas (withCheck (0 :: BitVec.ofNat 8 c.val :: (be 2 a ++ be 2 b ++ [d] ++ be 2 w)))
      = (directionOf d).map fun r => .data c (genCurrentValues a b r w) := by
  rw [parseMeas_withCheck, be_two, be_two, be_two]
  refine (measOfBody_seven_fields c _ _ _ _ _ _ _).trans ?_
  rw [if_pos hc, pair_of_bytes ha, pair_of_bytes hb, pair_of_bytes hw]

/-! ### A frame at the measurement port (R23, R25, R26) -/

theorem exec_measurementDataFrame (bytes : List Byte) (s : State) :
    exec (.measurementDataFrame bytes) s = .next (s.measArrive bytes).finish := rfl

theorem exec_endOfRound (bytes : List Byte) (s : State) : exec (.endOfRound bytes) s = .next (s.measArrive bytes).finish := rfl

theorem measArrive_data {s : State} {bytes : List Byte} {c : Chan} {v : Values} (hp : s.base.phase = .running)
    (hb : parseMeas bytes = some (.data c v)) : s.measArrive bytes = s.measData c v := by
  simp only [State.measArrive, hp, hb, ne_eq, not_true_eq_false, if_false]

theorem measArrive_marker {s : State} {bytes : List Byte} (hp : s.base.phase = .running) (hb : parseMeas bytes = some .marker) :
    s.measArrive bytes = s.measMarker := by
  simp only [State.measArrive, hp, hb, ne_eq, not_true_eq_false, if_false]

theorem measArrive_invalid {s : State} {bytes : List Byte} (hb : parseMeas bytes = none) : s.measArrive bytes = s := by
  simp only [State.measArrive, hb, ite_self]

/-- Settles O9: the two forms read back field by field, the shape of what is read, the check, and the port. -/
theorem dataFrameFillsItsSlot : Obligations.DataFrameFillsItsSlot := by
  unfold Obligations.DataFrameFillsItsSlot
  refine ⟨fun c a b ha hb => ⟨fun hc => ?current, fun hc => ?voltage, fun h5 h10 => ⟨?short, fun d w hw => ?generator⟩⟩,
    fun body => ⟨?marker, fun c v h => ?shape⟩, fun bytes => parseMeas_bad_check, fun s bytes hp => ⟨fun c v h => ?filled, fun h => ?left⟩⟩
  case current =>
    rw [parseMeas_two_fields c ha hb, if_neg (by omega), if_neg (by omega)]
    rfl
  case voltage =>
    rw [parseMeas_two_fields c ha hb, if_pos hc]
    rfl
  case short => rw [parseMeas_two_fields c ha hb, if_neg (by omega), if_pos ⟨h5, h10⟩]
  case generator =>
    have hread := parseMeas_generator ⟨h5, h10⟩ ha hb hw d
    refine ⟨fun reverse hd => hread.trans ?_, fun h0 h1 => hread.trans ?_⟩
    · rw [hd, directionOf_byte]
      rfl
    · rw [directionOf_other h0 h1]
      rfl
  case marker => rw [parseMeas_withCheck, measOfBody_marker_iff]
  case shape => exact measOfBody_data_shape (parseMeas_withCheck body ▸ h)
  case filled =>
    rw [exec_measurementDataFrame, measArrive_data hp h]
    rfl
  case left => rw [exec_measurementDataFrame, measArrive_invalid h]

/-! ### One channel at a boundary (R28, R29) -/

/-- A channel record after a round without a frame: one more absence, and lost from the third on. -/
def afterMiss (r : ChanRec) : ChanRec :=
  { r with
    absence := min 3 (r.absence + 1)
    status := if 2 ≤ r.absence then .measLost else if r.status = .present then .absent else r.status }

/-- The record a channel has after a boundary: set from its slot, or missed. -/
def chanAfter (stamp : Stamp) (t : Meas) (c : Chan) : ChanRec :=
  t.slots[c].elim (afterMiss t.chans[c]) fun v => ⟨.present, 0, some (v, stamp)⟩

/-- Missing a round and then entering MEAS_LOST where that is due is one update of the record. -/
theorem missed_then_lost (r : ChanRec) :
    (if r.missed.absence = 3 ∧ r.missed.status ≠ .measLost then { r.missed with status := .measLost } else r.missed) = afterMiss r := by
  obtain ⟨status, absence, last⟩ := r
  have hthird : min 3 (absence + 1) = 3 ↔ 2 ≤ absence := by omega
  simp only [ChanRec.missed, afterMiss, hthird]
  by_cases h2 : 2 ≤ absence
  · cases status <;> simp [h2]
  · cases status <;> simp [h2]

theorem setChan_self (t : Meas) (c : Chan) (r : ChanRec) : (t.setChan c r).chans[c] = r := by simp [Meas.setChan]

theorem setChan_other (t : Meas) {c d : Chan} (h : d ≠ c) (r : ChanRec) : (t.setChan c r).chans[d] = t.chans[d] := by
  have : (c : Nat) ≠ d := fun e => h (Fin.ext e.symm)
  simp [Meas.setChan, this]

/-- A channel at its third absence that is not lost is set lost, with its mark in the round. -/
theorem lostEntry_enters {t : Meas} {c : Chan} (h : t.chans[c].absence = 3 ∧ t.chans[c].status ≠ .measLost) :
    t.lostEntry c
      = { t.setChan c { t.chans[c] with status := .measLost } with
          round := t.round.map fun i => { i with entered := i.entered ++ [c] } } := if_pos h

theorem lostEntry_stays {t : Meas} {c : Chan} (h : ¬ (t.chans[c].absence = 3 ∧ t.chans[c].status ≠ .measLost)) :
    t.lostEntry c = t := if_neg h

theorem deliver_held {stamp : Stamp} {t : Meas} {c : Chan} {v : Values} (h : t.slots[c] = some v) :
    t.deliver stamp c = t.delivered c v stamp := by
  simp only [Meas.deliver, h]

theorem deliver_missed {stamp : Stamp} {t : Meas} {c : Chan} (h : t.slots[c] = none) :
    t.deliver stamp c = (t.setChan c t.chans[c].missed).lostEntry c := by
  simp only [Meas.deliver, h]

/-- What all the work of one channel at a boundary keeps of the port: the slots, the closing kind and the stamp of the round, and the
records of the other channels. -/
structure KeptBut (c : Chan) (u t : Meas) : Prop where
  slots : u.slots = t.slots
  round : (u.round.map fun i => (i.byMarker, i.stamp)) = t.round.map fun i => (i.byMarker, i.stamp)
  chans : ∀ d : Chan, d ≠ c → u.chans[d] = t.chans[d]

/-- A channel record replaced, with marks added to the round. -/
theorem keptBut_setChan (t : Meas) (c : Chan) (r : ChanRec) {i : Option RoundInfo}
    (hi : (i.map fun x => (x.byMarker, x.stamp)) = t.round.map fun x => (x.byMarker, x.stamp)) :
    KeptBut c { t.setChan c r with round := i } t := ⟨rfl, hi, fun _ hd => setChan_other t hd r⟩

theorem keptBut_trans {c : Chan} {t u v : Meas} (h : KeptBut c v u) (h' : KeptBut c u t) : KeptBut c v t :=
  ⟨h.slots.trans h'.slots, h.round.trans h'.round, fun d hd => (h.chans d hd).trans (h'.chans d hd)⟩

theorem keptBut_lostEntry (t : Meas) (c : Chan) : KeptBut c (t.lostEntry c) t := by
  by_cases h : t.chans[c].absence = 3 ∧ t.chans[c].status ≠ .measLost
  · rw [lostEntry_enters h]
    exact keptBut_setChan t c _ (Option.map_map ..)
  · rw [lostEntry_stays h]
    exact ⟨rfl, rfl, fun _ _ => rfl⟩

theorem keptBut_delivered (t : Meas) (c : Chan) (v : Values) (stamp : Stamp) : KeptBut c (t.delivered c v stamp) t := by
  refine keptBut_setChan t c _ ?_
  split
  · exact Option.map_map ..
  · rfl

/-- One channel at a boundary touches its own record and the marks of the round. -/
theorem keptBut_deliver (stamp : Stamp) (t : Meas) (c : Chan) : KeptBut c (t.deliver stamp c) t := by
  cases h : t.slots[c] with
  | some v =>
    rw [deliver_held h]
    exact keptBut_delivered t c v stamp
  | none =>
    rw [deliver_missed h]
    exact keptBut_trans (keptBut_lostEntry _ c) (keptBut_setChan t c _ rfl)

/-- Entry to MEAS_LOST as it leaves the channel's own record. -/
theorem lostEntry_self (t : Meas) (c : Chan) :
    (t.lostEntry c).chans[c]
      = if t.chans[c].absence = 3 ∧ t.chans[c].status ≠ .measLost then { t.chans[c] with status := .measLost }
        else t.chans[c] := by
  split
  case isTrue h => rw [lostEntry_enters h]; exact setChan_self ..
  case isFalse h => rw [lostEntry_stays h]

theorem deliver_self (stamp : Stamp) (t : Meas) (c : Chan) : (t.deliver stamp c).chans[c] = chanAfter stamp t c := by
  unfold chanAfter
  cases h : t.slots[c] with
  | some v =>
    rw [deliver_held h]
    exact setChan_self ..
  | none =>
    rw [deliver_missed h, lostEntry_self, setChan_self]
    exact missed_then_lost _

/-- The record after a boundary rests on the channel's own slot and record. -/
theorem chanAfter_congr {stamp : Stamp} {t u : Meas} {c : Chan} (hs : u.slots = t.slots) (hc : u.chans[c] = t.chans[c]) :
    chanAfter stamp u c = chanAfter stamp t c := by
  unfold chanAfter
  rw [hs, hc]

/-! ### All channels at a boundary (R27) -/

/-- The kind and stamp of the round stand while the channels are gone through. -/
theorem deliverAll_round (stamp : Stamp) (cs : List Chan) (t : Meas) :
    ((cs.foldl (Meas.deliver stamp) t).round.map fun i => (i.byMarker, i.stamp)) = t.round.map fun i => (i.byMarker, i.stamp) := by
  induction cs generalizing t with
  | nil => rfl
  | cons c cs ih => exact (ih _).trans (keptBut_deliver stamp t c).round

theorem deliverAll_other (stamp : Stamp) {cs : List Chan} {d : Chan} (h : d ∉ cs) (t : Meas) :
    (cs.foldl (Meas.deliver stamp) t).chans[d] = t.chans[d] := by
  induction cs generalizing t with
  | nil => rfl
  | cons c cs ih =>
    obtain ⟨hd, hcs⟩ := not_or.1 (mt List.mem_cons.2 h)
    exact (ih hcs _).trans ((keptBut_deliver stamp t c).chans d hd)

/-- Each channel gone through once has the record of its own slot. -/
theorem deliverAll_mem (stamp : Stamp) {cs : List Chan} (hnodup : cs.Nodup) {d : Chan} (h : d ∈ cs) (t : Meas) :
    (cs.foldl (Meas.deliver stamp) t).chans[d] = chanAfter stamp t d := by
  induction cs generalizing t with
  | nil => cases h
  | cons c cs ih =>
    obtain ⟨hc, hcs⟩ := List.nodup_cons.1 hnodup
    rw [List.foldl_cons]
    by_cases hd : d = c
    · subst hd
      rw [deliverAll_other stamp hc, deliver_self]
    · have hkept := keptBut_deliver stamp t c
      rw [ih hcs ((List.mem_cons.1 h).resolve_left hd), chanAfter_congr hkept.slots (hkept.chans d hd)]

theorem allChans_nodup : allChans.Nodup := by decide

theorem mem_allChans (c : Chan) : c ∈ allChans :=
  List.mem_filterMap.2 ⟨c.val, List.mem_range.2 c.isLt, dif_pos c.isLt⟩

theorem boundary_meas (s : State) (byMarker : Bool) :
    (s.boundary byMarker).meas
      = { allChans.foldl (Meas.deliver s.base.timeBase) { s.meas with round := some ⟨byMarker, s.base.timeBase, [], []⟩ } with
          slots := Vector.replicate 34 none, roundTimer := some 25 } := rfl

/-- A boundary sets every channel record from its slot. -/
theorem boundary_chans (s : State) (byMarker : Bool) (c : Chan) :
    (s.boundary byMarker).meas.chans[c] = chanAfter s.base.timeBase s.meas c := by
  rw [boundary_meas]
  dsimp only
  rw [deliverAll_mem _ allChans_nodup (mem_allChans c)]
  exact chanAfter_congr rfl rfl

theorem boundary_round (s : State) (byMarker : Bool) :
    ((s.boundary byMarker).meas.round.map fun i => (i.byMarker, i.stamp)) = some (byMarker, s.base.timeBase) := by
  rw [boundary_meas]
  dsimp only
  rw [deliverAll_round]
  rfl

/-- A boundary makes what R27 and R28 say it makes. -/
theorem boundary_made (s : State) (byMarker : Bool) : boundaryMade s byMarker (s.boundary byMarker) := by
  refine ⟨fun c => ?_, rfl, fun c v h => ?_, fun c h => ?_, boundary_round s byMarker, rfl, rfl⟩
  · rw [boundary_meas]
    exact Vector.getElem_replicate ..
  · rw [boundary_chans, chanAfter, h, Option.elim_some]
  · rw [boundary_chans, chanAfter, h, Option.elim_none]
    exact ⟨rfl, rfl, rfl⟩

/-! ### What closes a round (R26, R27) -/

theorem anySlot_iff (s : State) : s.meas.slots.toList.any Option.isSome = true ↔ ∃ c : Chan, s.meas.slots[c] ≠ none := by
  simp [Vector.any_eq_true, Option.isSome_iff_ne_none, Fin.exists_iff]

theorem measMarker_closes {s : State} (h : ∃ c : Chan, s.meas.slots[c] ≠ none) : s.measMarker = s.boundary true :=
  if_pos ((anySlot_iff s).2 h)

theorem measMarker_discarded {s : State} (h : ∀ c : Chan, s.meas.slots[c] = none) : s.measMarker = s :=
  if_neg fun hany => ((anySlot_iff s).1 hany).elim fun c hc => hc (h c)

theorem exec_roundTimerExpiry (s : State) : exec .roundTimerExpiry s = .next s.roundExpiry.finish := rfl

theorem roundExpiry_due {s : State} (h : s.meas.roundTimer = some 0) : s.roundExpiry = s.boundary false :=
  if_pos (by rw [h]; rfl)

/-! ### MEAS_LOST entry as a row (R29, R93, R121; log 6) -/

theorem exec_measLostEntry (c : Chan) (s : State) : exec (.measLostEntry c) s = .next (s.measLostEntry c).finish := rfl

theorem measLostEntry_enters {s : State} {c : Chan} (h : s.meas.chans[c].absence = 3 ∧ s.meas.chans[c].status ≠ .measLost) :
    s.measLostEntry c = { s with meas := s.meas.lostEntry c, inbox := s.inbox ++ lossEvents c } := if_pos h

/-- A lost current channel is handed to the protection unit, and a lost voltage channel to the monitor that watches it, if one does. -/
theorem lossEvents_eq (c : Chan) :
    lossEvents c
      = if c.val < 23 then [.lostProtection c] else if c = 23 then [.lostMonitor .ua]
        else if c = 24 then [.lostMonitor .ub] else if c = 27 then [.lostMonitor .gb] else [] := by
  revert c
  decide

/-- Settles O10: the marker and the round timer each make the one boundary, and the entry row makes the one entry. -/
theorem boundariesAndMeasLost : Obligations.BoundariesAndMeasLost := by
  unfold Obligations.BoundariesAndMeasLost
  refine ⟨fun s bytes => ⟨fun hp hb hheld => ⟨_, ?marker, boundary_made s true⟩, fun hp hb hempty => ?emptyRound,
    fun hdue => ⟨_, ?timer, boundary_made s false⟩⟩, fun s c habs hstat => ⟨s.measLostEntry c, exec_measLostEntry c s, ?entry⟩⟩
  case marker => rw [exec_endOfRound, measArrive_marker hp hb, measMarker_closes hheld]
  case emptyRound => rw [exec_endOfRound, measArrive_marker hp hb, measMarker_discarded hempty]
  case timer => rw [exec_roundTimerExpiry, roundExpiry_due hdue]
  case entry =>
    rw [measLostEntry_enters ⟨habs, hstat⟩, lostEntry_enters ⟨habs, hstat⟩, lossEvents_eq]
    exact ⟨setChan_self .., fun d hd => setChan_other _ hd _, rfl, rfl, rfl, rfl⟩

end Sys2Proof.Machine.Rounds

/-! SUPPORT. The statements of Section 3, and PLAN_START with them, whose start takes the permits of a plan: sets of positions, permits
replaced one by one, permit news, the wait list and its scan; then the statements from these rules. -/

namespace Sys2Proof.Machine.Permits

/-! ### Sets of positions -/

theorem mem_allPos (p : Pos) : p ∈ allPos := by
  revert p
  decide

theorem mem_posMembers {mask : PosMask} {p : Pos} : p ∈ posMembers mask ↔ mask.getLsbD p.val = true := by
  simp [posMembers, mem_allPos]

theorem posMembers_nodup (mask : PosMask) : (posMembers mask).Nodup :=
  List.Pairwise.filter _ (show allPos.Nodup by decide)

/-- Two masks are disjoint when no position is a member of both. -/
theorem and_eq_zero_iff {x y : PosMask} : x &&& y = 0 ↔ ∀ p ∈ posMembers x, p ∉ posMembers y := by
  constructor
  · intro h p hx hy
    have hbit : (x &&& y).getLsbD p.val = true := by
      rw [BitVec.getLsbD_and, mem_posMembers.1 hx, mem_posMembers.1 hy, Bool.and_self]
    rw [h] at hbit
    simp at hbit
  · intro h
    refine BitVec.eq_of_getLsbD_eq fun i hi => ?_
    have hp := h ⟨i, hi⟩
    simp only [mem_posMembers] at hp
    cases hx : x.getLsbD i <;> simp_all

/-- The positions claimed by entries: a set, grown by the mask of each. -/
def claims (claimed : PosMask) (es : List WaitEntry) : PosMask := es.foldl (fun c e => c ||| e.mask) claimed

/-- A mask disjoint from what is claimed and from every entry's mask stays so as the entries are claimed. -/
theorem and_claims_eq_zero {x : PosMask} {es : List WaitEntry} (hes : ∀ e ∈ es, e.mask &&& x = 0) {claimed : PosMask}
    (hx : x &&& claimed = 0) : x &&& claims claimed es = 0 := by
  induction es generalizing claimed with
  | nil => exact hx
  | cons e es ih =>
    have he : x &&& e.mask = 0 := BitVec.and_comm x e.mask ▸ hes e (.head _)
    refine ih (fun e' h' => hes e' (.tail _ h')) ?_
    rw [BitVec.and_or_distrib_left, hx, he]
    rfl

/-- A mask that meets what is claimed meets it when more is claimed. -/
theorem and_or_ne_zero {x c m : PosMask} (h : x &&& c ≠ 0) : x &&& (c ||| m) ≠ 0 := by
  intro h0
  rw [BitVec.and_or_distrib_left] at h0
  exact h (BitVec.or_eq_zero_iff.1 h0).1

/-! ### What the authority unit leaves alone -/

/-- The state differs from another in the authority unit and the notices at most. -/
abbrev AuthorityOnly (t s : State) : Prop := { t with auth := s.auth, link := s.link } = s

theorem authorityOnly_trans {s t u : State} (hu : AuthorityOnly u t) (ht : AuthorityOnly t s) : AuthorityOnly u s :=
  calc ({ u with auth := s.auth, link := s.link } : State)
    _ = { ({ u with auth := t.auth, link := t.link } : State) with auth := s.auth, link := s.link } := rfl
    _ = s := by rw [hu, ht]

/-- Such a state has the other's transfer engine, and all that only commands change. -/
theorem authorityOnly_kept {s t : State} (h : AuthorityOnly t s) : t.eng = s.eng ∧ t.outer = s.outer := by
  rw [← h]
  exact ⟨rfl, rfl⟩

theorem authorityOnly_set {s t : State} (h : AuthorityOnly t s) : t.set = s.set := by
  rw [← h]

theorem authorityOnly_newPermit {s t : State} (h : AuthorityOnly t s) : t.newPermit = s.newPermit := by
  rw [← h]
  rfl

theorem authorityOnly_foldl {α : Type} {f : State → α → State} (hf : ∀ s x, AuthorityOnly (f s x) s) (xs : List α) (s : State) :
    AuthorityOnly (xs.foldl f s) s := by
  induction xs generalizing s with
  | nil => rfl
  | cons x xs ih => exact authorityOnly_trans (ih _) (hf s x)

theorem notePort_authorityOnly (s : State) (q : Req) : AuthorityOnly (s.notePort q) s := by
  obtain ⟨l, h⟩ := notePort_link s q
  rw [h]

/-! ### Permits replaced (R39, R42, R48 to R50) -/

theorem permits_ext {v w : Vector (Option Permit) 23} (h : ∀ p : Pos, v[p] = w[p]) : v = w :=
  Vector.ext fun i hi => h ⟨i, hi⟩

theorem permits_set (v : Vector (Option Permit) 23) (p q : Pos) (x : Option Permit) :
    (v.set p x)[q] = if q = p then x else v[q] := by
  by_cases h : q = p
  · subst h
    simp
  · have : (p : Nat) ≠ q := fun e => h (Fin.ext e.symm)
    simp [h, this]

/-- The permit of each listed position replaced, by what its place and its old permit give. -/
@[irreducible] def replaced (v : Vector (Option Permit) 23) (ps : List Pos) (g : Pos → Option Permit → Option Permit) :
    Vector (Option Permit) 23 := Vector.ofFn fun p => if p ∈ ps then g p v[p] else v[p]

theorem replaced_apply (v : Vector (Option Permit) 23) (ps : List Pos) (g : Pos → Option Permit → Option Permit) (p : Pos) :
    (replaced v ps g)[p] = if p ∈ ps then g p v[p] else v[p] := by
  unfold replaced
  simp

/-- The state with its permits as given. -/
def withPermits (s : State) (v : Vector (Option Permit) 23) : State := { s with auth := { s.auth with permits := v } }

@[simp] theorem withPermits_permits (s : State) (v : Vector (Option Permit) 23) : (withPermits s v).auth.permits = v := rfl

@[simp] theorem withPermits_waits (s : State) (v : Vector (Option Permit) 23) : (withPermits s v).auth.waits = s.auth.waits := rfl

@[simp] theorem withPermits_news (s : State) (v : Vector (Option Permit) 23) : (withPermits s v).auth.news = s.auth.news := rfl

theorem withPermits_authorityOnly (s : State) (v : Vector (Option Permit) 23) : AuthorityOnly (withPermits s v) s := rfl

/-- The state with its wait list as given. -/
def withWaits (s : State) (ws : List WaitEntry) : State := { s with auth := { s.auth with waits := ws } }

@[simp] theorem withWaits_auth (s : State) (ws : List WaitEntry) : (withWaits s ws).auth = { s.auth with waits := ws } := rfl

theorem withWaits_authorityOnly (s : State) (ws : List WaitEntry) : AuthorityOnly (withWaits s ws) s := rfl

/-- Replacing the permits of distinct positions one after the other replaces them all at once. -/
theorem foldl_replaced {s : State} {f : State → Pos → State} {g : Pos → Option Permit → Option Permit}
    (hf : ∀ v p, f (withPermits s v) p = withPermits s (v.set p (g p v[p]))) {ps : List Pos} (hps : ps.Nodup) :
    ps.foldl f s = withPermits s (replaced s.auth.permits ps g) := by
  suffices h : ∀ v, ps.foldl f (withPermits s v) = withPermits s (replaced v ps g) from h s.auth.permits
  induction ps with
  | nil => exact fun v => congrArg (withPermits s) (permits_ext fun p => ((replaced_apply v [] g p).trans (if_neg List.not_mem_nil)).symm)
  | cons p ps ih =>
    intro v
    obtain ⟨hp, hps⟩ := List.nodup_cons.1 hps
    rw [List.foldl_cons, hf, ih hps]
    refine congrArg (withPermits s) (permits_ext fun q => ?_)
    rw [replaced_apply, replaced_apply, permits_set]
    by_cases h : q = p
    · subst h
      simp [hp]
    · simp [h]

/-- A grant puts the new permit on every position of its mask. -/
theorem grant_eq (s : State) (m : MasterIx) (k : PermitKind) (mask : PosMask) :
    s.grant m k mask = withPermits s (replaced s.auth.permits (posMembers mask) fun _ _ => some (s.newPermit m k)) :=
  foldl_replaced (fun _ _ => by cases k <;> rfl) (posMembers_nodup mask)

/-- A release frees the positions it lists. -/
theorem released_eq (s : State) {ps : List Pos} (hps : ps.Nodup) :
    ps.foldl (fun s p => s.setPermit p none) s = withPermits s (replaced s.auth.permits ps fun _ _ => none) :=
  foldl_replaced (fun _ _ => rfl) hps

/-- A renewal starts the lease of the holder's OPERATE permits again. -/
theorem renewed_eq (s : State) (m : MasterIx) (mask : PosMask) :
    (posMembers mask).foldl (fun s p => s.renew m p) s
      = withPermits s (replaced s.auth.permits (posMembers mask) fun _ => Option.map (Permit.renewed s.fullLease m)) :=
  foldl_replaced (fun _ _ => rfl) (posMembers_nodup mask)

/-- A start of the engine takes the fitted positions of its set and frees the others. -/
theorem engineTaken_eq (s : State) (mask : PosMask) :
    (posMembers mask).foldl State.engineTakes s
      = withPermits s (replaced s.auth.permits (posMembers mask) fun p _ => if s.fitted p then some .engine else none) :=
  foldl_replaced (fun v p => (apply_ite ((withPermits s v).setPermit p) (s.fitted p = true) (some .engine) none).symm)
    (posMembers_nodup mask)

/-! ### What may be granted (R42, R44) -/

/-- What may be granted on a position rests on its permit alone. -/
theorem grantable_congr {s t : State} {p : Pos} (h : t.auth.permits[p] = s.auth.permits[p]) (m : MasterIx) (k : PermitKind) :
    t.grantable m k p = s.grantable m k p := by
  unfold State.grantable
  rw [h]

/-- A new permit of a requester may be granted again to the same requester and kind alone. -/
theorem grantable_newPermit_iff {s : State} {p : Pos} {m m' : MasterIx} {k k' : PermitKind}
    (h : s.auth.permits[p] = some (s.newPermit m k)) : s.grantable m' k' p = true ↔ m' = m ∧ k' = k := by
  unfold State.grantable
  rw [h]
  cases k <;> cases k' <;> simp [State.newPermit, eq_comm (a := m)]

/-- No request is granted a position under the engine. -/
theorem grantable_engine {s : State} {p : Pos} (h : s.auth.permits[p] = some .engine) (m : MasterIx) (k : PermitKind) :
    s.grantable m k p = false := by
  unfold State.grantable
  rw [h]

/-! ### Permit news (R53) -/

theorem pushNews_auth (s : State) (m : MasterIx) (oc : NewsOutcome) (o mt : PosMask) (cause : Option NewsCause) :
    (s.pushNews m oc o mt cause).auth
      = { s.auth with
          news := s.auth.news.set m ⟨s.auth.news[m].counter + 1,
            pushBounded s.auth.news[m].list ⟨s.auth.news[m].counter + 1, oc, o, mt, cause⟩⟩ } := rfl

theorem pushNews_authorityOnly (s : State) (m : MasterIx) (oc : NewsOutcome) (o mt : PosMask) (cause : Option NewsCause) :
    AuthorityOnly (s.pushNews m oc o mt cause) s := rfl

theorem pushNews_news_self (s : State) (m : MasterIx) (oc : NewsOutcome) (o mt : PosMask) (cause : Option NewsCause) :
    (s.pushNews m oc o mt cause).auth.news[m]
      = ⟨s.auth.news[m].counter + 1, pushBounded s.auth.news[m].list ⟨s.auth.news[m].counter + 1, oc, o, mt, cause⟩⟩ := by
  rw [pushNews_auth]
  simp

theorem pushNews_news_other (s : State) {m m' : MasterIx} (h : m' ≠ m) (oc : NewsOutcome) (o mt : PosMask) (cause : Option NewsCause) :
    (s.pushNews m oc o mt cause).auth.news[m'] = s.auth.news[m'] := by
  have : (m : Nat) ≠ m' := fun e => h (Fin.ext e.symm)
  rw [pushNews_auth]
  simp [this]

/-- News of one kind is news with its mask in the place of that kind. -/
theorem pushKindNews_eq (k : PermitKind) (mask : PosMask) :
    ∃ o mt : PosMask, ∀ (s : State) (m : MasterIx) (oc : NewsOutcome) (cause : Option NewsCause),
      s.pushKindNews m oc k mask cause = s.pushNews m oc o mt cause := by
  cases k with
  | operate => exact ⟨mask, 0, fun _ _ _ _ => rfl⟩
  | maintenance => exact ⟨0, mask, fun _ _ _ _ => rfl⟩

/-! ### One entry granted by a scan (R44, R45) -/

/-- A waiting entry granted: its permits, and GRANTED news to its requester. -/
def grantWaiting (s : State) (e : WaitEntry) : State :=
  (s.grant e.requester e.kind e.mask).pushKindNews e.requester .granted e.kind e.mask none

theorem grantWaiting_authorityOnly (s : State) (e : WaitEntry) : AuthorityOnly (grantWaiting s e) s := by
  obtain ⟨o, mt, h⟩ := pushKindNews_eq e.kind e.mask
  rw [grantWaiting, h, grant_eq]
  exact authorityOnly_trans (pushNews_authorityOnly ..) (withPermits_authorityOnly ..)

theorem grantWaiting_permits (s : State) (e : WaitEntry) (p : Pos) :
    (grantWaiting s e).auth.permits[p]
      = if p ∈ posMembers e.mask then some (s.newPermit e.requester e.kind) else s.auth.permits[p] := by
  obtain ⟨o, mt, h⟩ := pushKindNews_eq e.kind e.mask
  rw [grantWaiting, h, grant_eq, pushNews_auth]
  exact replaced_apply ..

theorem grantWaiting_news_other (s : State) {e : WaitEntry} {m : MasterIx} (hm : m ≠ e.requester) :
    (grantWaiting s e).auth.news[m] = s.auth.news[m] := by
  obtain ⟨o, mt, h⟩ := pushKindNews_eq e.kind e.mask
  rw [grantWaiting, h, grant_eq, pushNews_news_other _ hm, withPermits_news]

/-- The news of a grant rests on the news its requester had. -/
theorem grantWaiting_news_self {s t : State} {e : WaitEntry} (ht : t.auth.news[e.requester] = s.auth.news[e.requester]) :
    (grantWaiting t e).auth.news[e.requester]
      = (s.pushKindNews e.requester .granted e.kind e.mask none).auth.news[e.requester] := by
  obtain ⟨o, mt, h⟩ := pushKindNews_eq e.kind e.mask
  rw [grantWaiting, h, h, grant_eq, pushNews_news_self, pushNews_news_self, withPermits_news, ht]

/-! ### The scan from head to tail (R44) -/

/-- An entry is granted when each of its positions is grantable and no older entry that stays claims one. -/
abbrev mayGrant (s : State) (claimed : PosMask) (e : WaitEntry) : Prop :=
  (∀ p ∈ posMembers e.mask, s.grantable e.requester e.kind p = true) ∧ e.mask &&& claimed = 0

theorem mayGrant_iff {s : State} {claimed : PosMask} {e : WaitEntry} :
    ((posMembers e.mask).all (s.grantable e.requester e.kind) && (e.mask &&& claimed) == 0) = true ↔ mayGrant s claimed e := by
  simp

/-- What a scan has kept before stands in front of what it keeps. -/
theorem scanFrom_kept (es : List WaitEntry) (claimed : PosMask) (kept : List WaitEntry) (s : State) :
    State.scanFrom es claimed kept s = (kept ++ (State.scanFrom es claimed [] s).1, (State.scanFrom es claimed [] s).2) := by
  induction es generalizing claimed kept s with
  | nil => simp [State.scanFrom]
  | cons e es ih =>
    unfold State.scanFrom
    split
    · exact ih ..
    · rw [ih _ (kept ++ [e]), ih _ ([] ++ [e])]
      simp

theorem scanFrom_granted {s : State} {claimed : PosMask} {e : WaitEntry} (h : mayGrant s claimed e) (es : List WaitEntry) :
    State.scanFrom (e :: es) claimed [] s = State.scanFrom es claimed [] (grantWaiting s e) := by
  rw [State.scanFrom, if_pos (mayGrant_iff.2 h)]
  rfl

theorem scanFrom_stays {s : State} {claimed : PosMask} {e : WaitEntry} (h : ¬ mayGrant s claimed e) (es : List WaitEntry) :
    State.scanFrom (e :: es) claimed [] s
      = (e :: (State.scanFrom es (claimed ||| e.mask) [] s).1, (State.scanFrom es (claimed ||| e.mask) [] s).2) := by
  rw [State.scanFrom, if_neg (mt mayGrant_iff.1 h), scanFrom_kept]
  rfl

/-- A list is scanned as its front, and then its back with what the front leaves claimed. -/
theorem scanFrom_append (xs ys : List WaitEntry) (claimed : PosMask) (s : State) :
    State.scanFrom (xs ++ ys) claimed [] s
      = ((State.scanFrom xs claimed [] s).1
            ++ (State.scanFrom ys (claims claimed (State.scanFrom xs claimed [] s).1) [] (State.scanFrom xs claimed [] s).2).1,
          (State.scanFrom ys (claims claimed (State.scanFrom xs claimed [] s).1) [] (State.scanFrom xs claimed [] s).2).2) := by
  induction xs generalizing claimed s with
  | nil => rfl
  | cons x xs ih =>
    rw [List.cons_append]
    by_cases h : mayGrant s claimed x
    · rw [scanFrom_granted h, scanFrom_granted h]
      exact ih ..
    · rw [scanFrom_stays h, scanFrom_stays h, ih]
      rfl

theorem scanFrom_authorityOnly (es : List WaitEntry) (claimed : PosMask) (s : State) :
    AuthorityOnly (State.scanFrom es claimed [] s).2 s := by
  induction es generalizing claimed s with
  | nil => rfl
  | cons e es ih =>
    by_cases h : mayGrant s claimed e
    · rw [scanFrom_granted h]
      exact authorityOnly_trans (ih ..) (grantWaiting_authorityOnly s e)
    · rw [scanFrom_stays h]
      exact ih ..

/-- What a scan leaves is a part of the list in its order. -/
theorem scanFrom_sublist (es : List WaitEntry) (claimed : PosMask) (s : State) :
    (State.scanFrom es claimed [] s).1.Sublist es := by
  induction es generalizing claimed s with
  | nil => exact .slnil
  | cons e es ih =>
    by_cases h : mayGrant s claimed e
    · rw [scanFrom_granted h]
      exact (ih ..).cons e
    · rw [scanFrom_stays h]
      exact (ih ..).cons_cons e

/-- An entry that wants a claimed position stays. -/
theorem scanFrom_mem_of_claimed {es : List WaitEntry} {y : WaitEntry} (hy : y ∈ es) {claimed : PosMask} (hc : y.mask &&& claimed ≠ 0)
    (s : State) : y ∈ (State.scanFrom es claimed [] s).1 := by
  induction es generalizing claimed s with
  | nil => cases hy
  | cons e es ih =>
    by_cases h : mayGrant s claimed e
    · rw [scanFrom_granted h]
      refine ih ((List.mem_cons.1 hy).resolve_left ?_) hc _
      rintro rfl
      exact hc h.2
    · rw [scanFrom_stays h]
      obtain rfl | hy := List.mem_cons.1 hy
      · exact .head _
      · exact .tail _ (ih hy (and_or_ne_zero hc) s)

/-- A scan leaves the permit of a position that no entry wants. -/
theorem scanFrom_permits_other {es : List WaitEntry} {p : Pos} (hp : ∀ e ∈ es, p ∉ posMembers e.mask) (claimed : PosMask) (s : State) :
    (State.scanFrom es claimed [] s).2.auth.permits[p] = s.auth.permits[p] := by
  induction es generalizing claimed s with
  | nil => rfl
  | cons e es ih =>
    obtain ⟨he, hes⟩ := List.forall_mem_cons.1 hp
    by_cases h : mayGrant s claimed e
    · rw [scanFrom_granted h, ih hes, grantWaiting_permits, if_neg he]
    · rw [scanFrom_stays h]
      exact ih hes ..

/-- A scan leaves the news of a master that no entry names. -/
theorem scanFrom_news_other {es : List WaitEntry} {m : MasterIx} (hm : ∀ e ∈ es, m ≠ e.requester) (claimed : PosMask) (s : State) :
    (State.scanFrom es claimed [] s).2.auth.news[m] = s.auth.news[m] := by
  induction es generalizing claimed s with
  | nil => rfl
  | cons e es ih =>
    obtain ⟨he, hes⟩ := List.forall_mem_cons.1 hm
    by_cases h : mayGrant s claimed e
    · rw [scanFrom_granted h, ih hes, grantWaiting_news_other s he]
    · rw [scanFrom_stays h]
      exact ih hes ..

/-- No grant would change the permit of the position: whoever may be granted it holds the very permit a grant would give. -/
def PermitSettled (s : State) (p : Pos) : Prop :=
  ∀ m k, s.grantable m k p = true → s.auth.permits[p] = some (s.newPermit m k)

theorem permitSettled_newPermit {s : State} {p : Pos} {m : MasterIx} {k : PermitKind}
    (h : s.auth.permits[p] = some (s.newPermit m k)) : PermitSettled s p := by
  intro m' k' hg
  obtain ⟨rfl, rfl⟩ := (grantable_newPermit_iff h).1 hg
  exact h

theorem permitSettled_engine {s : State} {p : Pos} (h : s.auth.permits[p] = some .engine) : PermitSettled s p := by
  intro m k hg
  rw [grantable_engine h] at hg
  cases hg

/-- A scan keeps a permit that no grant would change. -/
theorem scanFrom_settled {s : State} {p : Pos} (hp : PermitSettled s p) (es : List WaitEntry) (claimed : PosMask) :
    (State.scanFrom es claimed [] s).2.auth.permits[p] = s.auth.permits[p] := by
  induction es generalizing claimed s with
  | nil => rfl
  | cons e es ih =>
    by_cases h : mayGrant s claimed e
    · have hsame : (grantWaiting s e).auth.permits[p] = s.auth.permits[p] := by
        rw [grantWaiting_permits]
        split
        case isTrue hmem => exact (hp _ _ (h.1 p hmem)).symm
        case isFalse => rfl
      have hsettled : PermitSettled (grantWaiting s e) p := by
        intro m k hg
        rw [grantable_congr hsame] at hg
        rw [hsame, hp m k hg, authorityOnly_newPermit (grantWaiting_authorityOnly s e)]
      rw [scanFrom_granted h, ih hsettled, hsame]
    · rw [scanFrom_stays h]
      exact ih hp _

/-- An entry that a scan takes off the list holds its positions when the scan ends. -/
theorem scanFrom_taken {es : List WaitEntry} {e : WaitEntry} (he : e ∈ es) {claimed : PosMask} {s : State}
    (hleft : e ∉ (State.scanFrom es claimed [] s).1) {p : Pos} (hp : p ∈ posMembers e.mask) :
    (State.scanFrom es claimed [] s).2.auth.permits[p] = some (s.newPermit e.requester e.kind) := by
  induction es generalizing claimed s with
  | nil => cases he
  | cons x es ih =>
    by_cases h : mayGrant s claimed x
    · rw [scanFrom_granted h] at hleft ⊢
      have hnew := authorityOnly_newPermit (grantWaiting_authorityOnly s x)
      obtain rfl | he := List.mem_cons.1 he
      · have hgot : (grantWaiting s e).auth.permits[p] = some ((grantWaiting s e).newPermit e.requester e.kind) := by
          rw [grantWaiting_permits, if_pos hp, hnew]
        rw [scanFrom_settled (permitSettled_newPermit hgot), hgot, hnew]
      · rw [ih he hleft, hnew]
    · rw [scanFrom_stays h] at hleft ⊢
      obtain ⟨hx, hleft⟩ := not_or.1 (mt List.mem_cons.2 hleft)
      exact ih ((List.mem_cons.1 he).resolve_left hx) hleft

/-! ### The scan of the wait list (R44, R45, R52) -/

theorem scan_run {s : State} (h : s.modes.mode = .run) :
    s.scan = { (State.scanFrom s.auth.waits 0 [] s).2 with
      auth := { (State.scanFrom s.auth.waits 0 [] s).2.auth with waits := (State.scanFrom s.auth.waits 0 [] s).1 } } := if_pos h

theorem scan_not_run {s : State} (h : s.modes.mode ≠ .run) : s.scan = s := if_neg h

theorem scan_authorityOnly (s : State) : AuthorityOnly s.scan s := by
  by_cases h : s.modes.mode = .run
  · rw [scan_run h]
    exact scanFrom_authorityOnly ..
  · rw [scan_not_run h]

theorem scan_sublist (s : State) : s.scan.auth.waits.Sublist s.auth.waits := by
  by_cases h : s.modes.mode = .run
  · rw [scan_run h]
    exact scanFrom_sublist ..
  · simp only [scan_not_run h, List.Sublist.refl]

theorem scan_settled {s : State} {p : Pos} (hp : PermitSettled s p) : s.scan.auth.permits[p] = s.auth.permits[p] := by
  by_cases h : s.modes.mode = .run
  · rw [scan_run h]
    exact scanFrom_settled hp ..
  · rw [scan_not_run h]

theorem scan_taken {s : State} {e : WaitEntry} (he : e ∈ s.auth.waits) (hleft : e ∉ s.scan.auth.waits) {p : Pos}
    (hp : p ∈ posMembers e.mask) : s.scan.auth.permits[p] = some (s.newPermit e.requester e.kind) := by
  by_cases h : s.modes.mode = .run
  · rw [scan_run h] at hleft ⊢
    exact scanFrom_taken he hleft hp
  · rw [scan_not_run h] at hleft
    exact absurd he hleft

/-- In a list of distinct requesters, an entry is none of those before it or behind it. -/
theorem requesters_distinct {xs ys : List WaitEntry} {e : WaitEntry} (h : ((xs ++ e :: ys).map (·.requester)).Nodup) :
    (∀ x ∈ xs, e.requester ≠ x.requester) ∧ ∀ y ∈ ys, e.requester ≠ y.requester := by
  rw [List.map_append, List.map_cons, List.nodup_append, List.nodup_cons] at h
  obtain ⟨-, ⟨hys, -⟩, hxs⟩ := h
  exact ⟨fun x hx heq => hxs _ (List.mem_map_of_mem hx) _ (.head _) heq.symm,
    fun y hy heq => hys (heq ▸ List.mem_map_of_mem hy)⟩

/-- An entry with another requester than each of a list is not left of it by a scan. -/
theorem not_mem_scanFrom {es : List WaitEntry} {e : WaitEntry} (h : ∀ x ∈ es, e.requester ≠ x.requester) (claimed : PosMask)
    (s : State) : e ∉ (State.scanFrom es claimed [] s).1 :=
  fun he => h e ((scanFrom_sublist ..).subset he) rfl

/-- An entry that stays keeps every younger entry that wants one of its positions. -/
theorem scan_no_overtaking {s : State} {xs ys zs : List WaitEntry} {e y : WaitEntry} (hw : s.auth.waits = xs ++ e :: ys ++ y :: zs)
    (hnodup : (s.auth.waits.map (·.requester)).Nodup) (hover : e.mask &&& y.mask ≠ 0) (he : e ∈ s.scan.auth.waits) :
    y ∈ s.scan.auth.waits := by
  rw [List.append_assoc, List.cons_append] at hw
  by_cases hmode : s.modes.mode = .run
  case neg =>
    rw [scan_not_run hmode, hw]
    simp
  case pos =>
    rw [hw] at hnodup
    obtain ⟨hxs, hrest⟩ := requesters_distinct hnodup
    rw [scan_run hmode, hw] at he ⊢
    dsimp only at he ⊢
    rw [scanFrom_append] at he ⊢
    have he := (List.mem_append.1 he).resolve_left (not_mem_scanFrom hxs _ _)
    refine List.mem_append_right _ ?_
    generalize claims 0 _ = claimed at he ⊢
    generalize (State.scanFrom xs 0 [] s).2 = t at he ⊢
    by_cases h : mayGrant t claimed e
    · rw [scanFrom_granted h] at he
      exact absurd he (not_mem_scanFrom hrest _ _)
    · rw [scanFrom_stays h]
      have hclaimed : y.mask &&& (claimed ||| e.mask) ≠ 0 := by
        rw [BitVec.or_comm]
        exact and_or_ne_zero (BitVec.and_comm e.mask y.mask ▸ hover)
      exact .tail _ (scanFrom_mem_of_claimed (by simp) hclaimed t)

/-- In RUN an entry whose positions are grantable and wanted by no older entry leaves the list, with the news of a grant. -/
theorem scan_grants {s : State} {xs ys : List WaitEntry} {e : WaitEntry} (hmode : s.modes.mode = .run)
    (hw : s.auth.waits = xs ++ e :: ys) (hnodup : (s.auth.waits.map (·.requester)).Nodup)
    (hfree : ∀ x ∈ xs, x.mask &&& e.mask = 0) (hgrant : ∀ p ∈ posMembers e.mask, s.grantable e.requester e.kind p = true) :
    e ∉ s.scan.auth.waits
      ∧ s.scan.auth.news[e.requester] = (s.pushKindNews e.requester .granted e.kind e.mask none).auth.news[e.requester] := by
  rw [hw] at hnodup
  obtain ⟨hxs, hys⟩ := requesters_distinct hnodup
  have hmay : mayGrant (State.scanFrom xs 0 [] s).2 (claims 0 (State.scanFrom xs 0 [] s).1) e := by
    constructor
    · intro p hp
      rw [grantable_congr (scanFrom_permits_other (fun x hx hpx => and_eq_zero_iff.1 (hfree x hx) p hpx hp) 0 s)]
      exact hgrant p hp
    · exact and_claims_eq_zero (fun x hx => hfree x ((scanFrom_sublist ..).subset hx)) BitVec.and_zero
  rw [scan_run hmode, hw]
  dsimp only
  rw [scanFrom_append, scanFrom_granted hmay]
  refine ⟨fun he => ?_, ?_⟩
  · obtain he | he := List.mem_append.1 he
    · exact not_mem_scanFrom hxs _ _ he
    · exact not_mem_scanFrom hys _ _ he
  · exact (scanFrom_news_other hys _ _).trans (grantWaiting_news_self (scanFrom_news_other hxs 0 s))

/-- Settles O14: no overtaking, what is left and what is taken, no scan outside RUN, and the grant in RUN. -/
theorem waitListScan : Obligations.WaitListScan := by
  unfold Obligations.WaitListScan
  refine ⟨fun s xs ys zs e y => scan_no_overtaking, fun s => ⟨scan_sublist s, fun e he hleft p hp => ?taken⟩,
    fun s => scan_not_run, fun s xs ys e hmode hw hnodup hfree hgrant => ?granted⟩
  case taken =>
    rw [scan_taken he hleft hp]
    cases e.kind <;> rfl
  case granted =>
    have h := scan_grants hmode hw hnodup hfree hgrant
    refine ⟨h.1, h.2.trans ?_⟩
    cases e.kind <;> rfl

/-! ### Lease expiry, wait expiry and the news they write (R39, R46, R53) -/

theorem exec_leaseExpiry (p : Pos) (s : State) : exec (.leaseExpiry p) s = .next (s.leaseExpiry p).finish := rfl

theorem exec_waitTimerExpiry (m : MasterIx) (s : State) : exec (.waitTimerExpiry m) s = .next (s.waitExpiry m).finish := rfl

theorem leaseExpiry_due {s : State} {p : Pos} {m : MasterIx} (h : s.auth.permits[p] = some (.operate m (some 0))) :
    s.leaseExpiry p = ((s.setPermit p none).pushNews m .expired (maskOf [p]) 0 none).scan := by
  simp only [State.leaseExpiry, h]
  exact if_pos rfl

/-- The entry a wait expiry finds is the requester's, where the requester has one entry. -/
theorem waitExpiry_due {s : State} {e : WaitEntry} (he : e ∈ s.auth.waits) (hdue : e.wait = some 0)
    (hone : ∀ x ∈ s.auth.waits, x.requester = e.requester → x = e) :
    s.waitExpiry e.requester
      = (State.pushKindNews { s with auth := { s.auth with waits := s.auth.waits.filter fun x => x.requester != e.requester } }
          e.requester .timedOut e.kind e.mask none).scan := by
  have hfind : (s.auth.waits.find? fun x => x.requester == e.requester && x.wait.due) = some e := by
    have hsome : (s.auth.waits.find? fun x => x.requester == e.requester && x.wait.due).isSome = true :=
      List.find?_isSome.2 ⟨e, he, by simp [Timer.due, hdue]⟩
    obtain ⟨x, hx⟩ := Option.isSome_iff_exists.1 hsome
    have hreq : x.requester = e.requester := by
      have := List.find?_some hx
      simp only [Bool.and_eq_true, beq_iff_eq] at this
      exact this.1
    rw [hx, hone x (List.mem_of_find?_eq_some hx) hreq]
  simp only [State.waitExpiry, hfind]

/-- The entry added is the last. -/
theorem pushBounded_getLast? {α : Type} (xs : List α) (x : α) : (pushBounded xs x).getLast? = some x := by
  simp [pushBounded]

/-- Before it stands the list as it was, without its oldest where eight were held. -/
theorem pushBounded_dropLast {α : Type} (xs : List α) (x : α) :
    (pushBounded xs x).dropLast = if 8 ≤ xs.length then xs.drop 1 else xs := by
  simp [pushBounded]

/-- Settles O13: the two expiries by what their timers find due, and the news by the bounded list. -/
theorem leaseAndWaitExpiryWithNews : Obligations.LeaseAndWaitExpiryWithNews := by
  unfold Obligations.LeaseAndWaitExpiryWithNews
  refine ⟨⟨fun s p m h => ?lease, fun s e he hdue hone => ?wait⟩, fun s m oc o mt cause hlen => ?news⟩
  case lease =>
    rw [exec_leaseExpiry, leaseExpiry_due h]
    rfl
  case wait => rw [exec_waitTimerExpiry, waitExpiry_due he hdue hone]
  case news =>
    intro b
    have hb : b = _ := pushNews_news_self s m oc o mt cause
    rw [hb]
    refine ⟨rfl, pushBounded_length hlen _, pushBounded_getLast? .., fun hroom => ?_, fun hfull => ?_⟩
    · exact (pushBounded_dropLast ..).trans (if_neg (by omega))
    · exact (pushBounded_dropLast ..).trans (if_pos (by omega))

/-! ### A permit claim (R41 to R43) -/

theorem exec_permitReq {s u : State} {q : Req} {m : MasterIx} (h : s.hears q m) {mask : PosMask} {kind : Nat} {wait : Bool}
    {time : Nat} {a : Answer} (ha : (s.notePort q).permitReq m mask kind wait time = (a, u)) :
    exec (.permitReq q mask kind wait time) s = .next (u.answered q 3 a) :=
  serve_eq h 3 (fun m s => s.permitReq m mask kind wait time) ha

/-- A claim that passes the checks of Table 3.5 is granted where all its positions are grantable, and otherwise waits if it may. -/
theorem permitReq_checked {s : State} {m : MasterIx} {mask : PosMask} {kind : Nat} {k : PermitKind} {wait : Bool} {time : Nat}
    (hkind : permitKindOf kind = some k) (hmask : mask ≠ 0) (htime : wait = true → time ≤ 30) (hmode : s.modes.mode = .run)
    (hrole : ∀ p ∈ posMembers mask, (s.roleOf m).mayHold k p = true) (hfitted : ∀ p ∈ posMembers mask, s.fitted p = true)
    (hnone : ∀ e ∈ s.auth.waits, e.requester ≠ m) :
    s.permitReq m mask kind wait time
      = if ∀ p ∈ posMembers mask, s.grantable m k p = true then ({ code := .done }, s.grant m k mask)
        else s.permitWait m k mask wait time := by
  have hrange : ¬ (mask = 0 ∨ (wait = true ∧ 30 < time)) := by
    rintro (h | ⟨h, h30⟩)
    · exact hmask h
    · exact absurd (htime h) (by omega)
  have hroles : ((posMembers mask).find? fun p => !(s.roleOf m).mayHold k p) = none :=
    List.find?_eq_none.2 fun p hp => by simp [hrole p hp]
  have hfits : ((posMembers mask).find? fun p => !s.fitted p) = none :=
    List.find?_eq_none.2 fun p hp => by simp [hfitted p hp]
  have hwaits : (s.auth.waits.any fun e => e.requester == m) = false :=
    List.any_eq_false.2 fun e he => by simp [hnone e he]
  simp only [State.permitReq, hkind, hrange, hmode, hroles, hfits, hwaits, List.all_eq_true, ne_eq, not_true_eq_false, if_false,
    Bool.false_eq_true]

theorem permitWait_joins {s : State} (h : s.auth.waits.length < 16) (m : MasterIx) (k : PermitKind) (mask : PosMask) (time : Nat) :
    s.permitWait m k mask true time
      = ({ code := .queued }, withWaits s (s.auth.waits ++ [⟨m, mask, k, s.waitLength time⟩])) := by
  unfold State.permitWait
  rw [if_pos rfl, if_neg (by omega)]
  rfl

theorem permitWait_full {s : State} (h : 16 ≤ s.auth.waits.length) (m : MasterIx) (k : PermitKind) (mask : PosMask) (time : Nat) :
    s.permitWait m k mask true time = ({ code := .waitFull }, s) := by
  unfold State.permitWait
  rw [if_pos rfl, if_pos h]
  rfl

/-- Settles O11: a checked claim by whether every position is grantable, and a waiting one by the room of the list. -/
theorem claimGrantedOrWaiting : Obligations.ClaimGrantedOrWaiting := by
  unfold Obligations.ClaimGrantedOrWaiting
  constructor
  · intro s q m mask kind k wait time hears hkind hmask htime hmode hall hnone
    have hreq := permitReq_checked (s := s.notePort q) (m := m) hkind hmask htime (by simpa) (fun p hp => by simpa using (hall p hp).1)
      (fun p hp => by simpa using (hall p hp).2.1) (by simpa)
    rw [if_pos fun p hp => by simpa using (hall p hp).2.2, grant_eq] at hreq
    refine ⟨_, exec_permitReq hears hreq, fun p => ?_, by simp, by simp,
      authorityOnly_trans (withPermits_authorityOnly ..) (notePort_authorityOnly s q)⟩
    rw [withPermits_permits, replaced_apply, authorityOnly_newPermit (notePort_authorityOnly s q), notePort_auth]
    simp only [mem_posMembers]
    cases k <;> rfl
  · intro s q m mask kind k time hears hkind hmask htime hmode hall hnone hsome
    have hreq := permitReq_checked (s := s.notePort q) (m := m) (wait := true) hkind hmask (fun _ => htime) (by simpa)
      (fun p hp => by simpa using (hall p hp).1) (fun p hp => by simpa using (hall p hp).2) (by simpa)
    obtain ⟨p, hp, hheld⟩ := hsome
    rw [if_neg fun h => by simpa [hheld] using h p hp] at hreq
    constructor
    · intro hroom
      rw [permitWait_joins (by simpa)] at hreq
      refine ⟨_, exec_permitReq hears hreq, ?_, authorityOnly_trans (withWaits_authorityOnly ..) (notePort_authorityOnly s q)⟩
      simp only [withWaits_auth, State.waitLength, notePort_auth, notePort_set]
    · intro hfull
      rw [permitWait_full (by simpa)] at hreq
      exact exec_permitReq hears hreq

/-! ### Release and renewal (R48, R49) -/

theorem exec_permitRelease {s u : State} {q : Req} {m : MasterIx} (h : s.hears q m) {mask : PosMask} {withdraw : Bool} {a : Answer}
    (ha : (s.notePort q).permitRelease m mask withdraw = (a, u)) :
    exec (.permitRelease q mask withdraw) s = .next (u.answered q 4 a) :=
  serve_eq h 4 (fun m s => s.permitRelease m mask withdraw) ha

theorem exec_permitRenew {s u : State} {q : Req} {m : MasterIx} (h : s.hears q m) {mask : PosMask} {a : Answer}
    (ha : (s.notePort q).permitRenew m mask = (a, u)) : exec (.permitRenew q mask) s = .next (u.answered q 5 a) :=
  serve_eq h 5 (fun m s => s.permitRenew m mask) ha

/-- What a release leaves before the list is scanned. -/
def released (s : State) (m : MasterIx) (mask : PosMask) (withdraw : Bool) : State :=
  withWaits (withPermits s (replaced s.auth.permits ((posMembers mask).filter (s.holds m)) fun _ _ => none))
    (if withdraw then s.auth.waits.filter fun e => e.requester != m else s.auth.waits)

theorem released_authorityOnly (s : State) (m : MasterIx) (mask : PosMask) (withdraw : Bool) :
    AuthorityOnly (released s m mask withdraw) s :=
  authorityOnly_trans (withWaits_authorityOnly ..) (withPermits_authorityOnly ..)

theorem released_permits (s : State) (m : MasterIx) (mask : PosMask) (withdraw : Bool) (p : Pos) :
    (released s m mask withdraw).auth.permits[p] = if mask.getLsbD p.val && s.holds m p then none else s.auth.permits[p] := by
  rw [released, withWaits_auth]
  dsimp only
  rw [withPermits_permits, replaced_apply]
  simp only [List.mem_filter, mem_posMembers, Bool.and_eq_true]

/-- A release scans the list when a permit was freed or an entry withdrawn. -/
theorem permitRelease_eq (s : State) (m : MasterIx) {mask : PosMask} {withdraw : Bool} (h : mask ≠ 0 ∨ withdraw = true) :
    s.permitRelease m mask withdraw
      = (heldAnswer (maskOf ((posMembers mask).filter fun p => !s.holds m p)),
          if (∃ p ∈ posMembers mask, s.holds m p = true) ∨ (withdraw = true ∧ ∃ e ∈ s.auth.waits, e.requester = m) then
            (released s m mask withdraw).scan
          else released s m mask withdraw) := by
  have hgiven : ¬ (mask = 0 ∧ withdraw = false) := fun ⟨h0, hw⟩ => h.elim (· h0) (by simp [hw])
  have hscan : ((withdraw && s.auth.waits.any fun e => e.requester == m) || !((posMembers mask).filter (s.holds m)).isEmpty) = true
      ↔ (∃ p ∈ posMembers mask, s.holds m p = true) ∨ (withdraw = true ∧ ∃ e ∈ s.auth.waits, e.requester = m) := by
    rw [or_comm]
    simp
  have hstate : (if withdraw = true then
        withWaits (withPermits s (replaced s.auth.permits ((posMembers mask).filter (s.holds m)) fun _ _ => none))
          (s.auth.waits.filter fun e => e.requester != m)
      else withPermits s (replaced s.auth.permits ((posMembers mask).filter (s.holds m)) fun _ _ => none))
      = released s m mask withdraw := by
    cases withdraw <;> rfl
  rw [State.permitRelease, if_neg hgiven]
  dsimp only
  rw [released_eq s (List.Pairwise.filter _ (posMembers_nodup mask))]
  exact congrArg (Prod.mk _) (ite_congr (propext hscan) (fun _ => congrArg State.scan hstate) fun _ => hstate)

theorem permitRenew_eq (s : State) (m : MasterIx) {mask : PosMask} (h : mask ≠ 0) :
    s.permitRenew m mask
      = (heldAnswer (maskOf ((posMembers mask).filter fun p => !s.holds m p)),
          withPermits s (replaced s.auth.permits (posMembers mask) fun _ => Option.map (Permit.renewed s.fullLease m))) := by
  rw [State.permitRenew, if_neg h, renewed_eq]

/-- Settles O12: a release by what it frees and whether it scans, a renewal by the lease it starts again. -/
theorem releaseAndRenewal : Obligations.ReleaseAndRenewal := by
  unfold Obligations.ReleaseAndRenewal
  intro s q m mask hears
  constructor
  · intro withdraw hgiven
    refine ⟨released (s.notePort q) m mask withdraw, fun p => ?_, ?_, ?_,
      authorityOnly_trans (released_authorityOnly ..) (notePort_authorityOnly s q), ?_⟩
    · rw [released_permits, notePort_holds, notePort_auth]
    · simp [released]
    · simp [released]
    · have hreq := permitRelease_eq (s.notePort q) m hgiven
      simp only [notePort_holds, notePort_auth] at hreq
      exact exec_permitRelease hears hreq
  · intro hmask
    have hreq := permitRenew_eq (s.notePort q) m hmask
    simp only [notePort_holds, notePort_auth, notePort_fullLease] at hreq
    refine ⟨_, exec_permitRenew hears hreq, fun p => ?_, by simp, by simp,
      authorityOnly_trans (withPermits_authorityOnly ..) (notePort_authorityOnly s q)⟩
    rw [withPermits_permits, replaced_apply]
    simp only [mem_posMembers]
    refine ite_congr rfl (fun _ => ?_) fun _ => rfl
    generalize s.auth.permits[p] = held
    rcases held with - | ⟨h, old⟩ | h | - <;> rfl

/-! ### How a request is taken (R36, R184, R185) -/

/-- A reply queued on a port that is not SILENT joins its replies at the end. -/
theorem queueReply_replies {s : State} {q : Req} (h : s.link.ports[q.port].silent = false) (ident : Nat) (a : Answer) :
    (s.queueReply ⟨q, ident⟩ a).link.ports[q.port].replies
      = s.link.ports[q.port].replies ++ [⟨q.sender, q.tag, ident, a.payload⟩] := by
  have hport : s.link.ports[q.port.val].silent = false := h
  simp [State.queueReply, State.updPort, hport]

/-- Settles O15, from the cases of a request served and the reply it queues. -/
theorem requestsAreAnswered : Obligations.RequestsAreAnswered := by
  unfold Obligations.RequestsAreAnswered
  exact fun s q ident f => ⟨fun h => serve_not_accepted h ident f, fun h hfull => serve_full h hfull ident f,
    fun h hroom hnone => serve_unmatched h hroom hnone ident f, fun m h => serve_of_hears h ident f,
    fun a hsilent => ⟨queueReply_replies hsilent ident a, rfl, rfl⟩⟩

/-! ### What the synchronizer leaves alone -/

/-- The authority unit and the transfer engine, which an entry leaving the synchronizer does not touch. -/
def authorityAndEngine (s : State) : Authority × Engine := (s.auth, s.eng)

theorem setPosState_authorityAndEngine (s : State) (p : Pos) (st : PosState) (k : ChangeKind) :
    authorityAndEngine (s.setPosState p st k) = authorityAndEngine s := by
  unfold State.setPosState
  split <;> rfl

theorem tellLedger_authorityAndEngine (s : State) (e : SyncEntry) (oc : Option SyncOutcome) :
    authorityAndEngine (s.tellLedger e oc) = authorityAndEngine s := by
  unfold State.tellLedger
  split <;> rfl

theorem tellOutcome_authorityAndEngine (s : State) (e : SyncEntry) (oc : SyncOutcome) (tellEngine : Bool) :
    authorityAndEngine (s.tellOutcome e oc tellEngine) = authorityAndEngine s := by
  unfold State.tellOutcome
  (repeat' split) <;> rfl

theorem syncEnd_authorityAndEngine (s : State) (e : SyncEntry) (oc : SyncOutcome) (d : Option SyncDetail) (tellEngine : Bool) :
    authorityAndEngine (s.syncEnd e oc d tellEngine) = authorityAndEngine s :=
  tellOutcome_authorityAndEngine ..

theorem endAttempt_authorityAndEngine (s : State) (oc : SyncOutcome) (d : Option SyncDetail) (tellEngine : Bool) :
    authorityAndEngine (s.endAttempt oc d tellEngine) = authorityAndEngine s := by
  unfold State.endAttempt
  split
  · rfl
  · exact syncEnd_authorityAndEngine ..

theorem closeRequest_authorityAndEngine (s : State) (p : Pos) (o : Origin) (req : Option MasterIx) :
    authorityAndEngine (s.closeRequest p o req).2 = authorityAndEngine s := by
  have hstart : authorityAndEngine (s.startClose p o req) = authorityAndEngine s := setPosState_authorityAndEngine ..
  unfold State.closeRequest
  split
  case h_1 =>
    split
    · rfl
    · exact hstart
  all_goals rfl

theorem triggerOnce_authorityAndEngine (s : State) (e : SyncEntry) :
    authorityAndEngine (s.triggerOnce e).2 = authorityAndEngine s := by
  have hclose := closeRequest_authorityAndEngine s e.pos .sync none
  unfold State.triggerOnce
  split
  · exact endAttempt_authorityAndEngine ..
  · split
    · exact endAttempt_authorityAndEngine ..
    · split
      next s1 heq => exact (congrArg (authorityAndEngine ·.2) heq).symm.trans hclose
      next s1 heq =>
        exact (endAttempt_authorityAndEngine ..).trans ((congrArg (authorityAndEngine ·.2) heq).symm.trans hclose)
      next r s1 heq =>
        exact (endAttempt_authorityAndEngine ..).trans ((congrArg (authorityAndEngine ·.2) heq).symm.trans hclose)

theorem grantEntry_authorityAndEngine (s : State) (e : SyncEntry) : authorityAndEngine (s.grantEntry e) = authorityAndEngine s := by
  unfold State.grantEntry
  extract_lets y s1 s2
  have h1 : authorityAndEngine s1 = authorityAndEngine s := tellLedger_authorityAndEngine ..
  split
  · exact (endAttempt_authorityAndEngine ..).trans h1
  · split
    · exact (triggerOnce_authorityAndEngine ..).trans h1
    · exact h1

theorem grantLoop_authorityAndEngine (n : Nat) (s : State) : authorityAndEngine (State.grantLoop n s) = authorityAndEngine s := by
  induction n generalizing s with
  | zero => rfl
  | succ n ih =>
    unfold State.grantLoop
    split
    · split
      · rfl
      · exact (ih _).trans (grantEntry_authorityAndEngine ..)
    · rfl

theorem regrant_authorityAndEngine (s : State) : authorityAndEngine s.regrant = authorityAndEngine s := by
  unfold State.regrant
  split
  · exact grantLoop_authorityAndEngine ..
  · rfl

/-- A position taken off the synchronizer leaves the permits and the engine. -/
theorem withdraw_authorityAndEngine (s : State) (p : Pos) (tellEngine : Bool) :
    authorityAndEngine (s.withdraw p tellEngine) = authorityAndEngine s := by
  unfold State.withdraw
  split
  · exact syncEnd_authorityAndEngine ..
  · split
    · rfl
    · split
      · exact (regrant_authorityAndEngine _).trans (endAttempt_authorityAndEngine ..)
      · rfl

theorem withdrawMasters_authorityAndEngine (ps : List Pos) (s : State) :
    authorityAndEngine (ps.foldl State.withdrawMaster s) = authorityAndEngine s := by
  induction ps generalizing s with
  | nil => rfl
  | cons p ps ih =>
    have hp : authorityAndEngine (s.withdrawMaster p) = authorityAndEngine s := by
      unfold State.withdrawMaster
      split
      · exact withdraw_authorityAndEngine ..
      · rfl
    exact (ih _).trans hp

/-! ### The permits of a start (R50) -/

theorem engineRevokes_permits (lost : State) (set : PosMask) (s : State) (m : MasterIx) :
    (State.engineRevokes lost set s m).auth.permits = s.auth.permits := by
  unfold State.engineRevokes
  dsimp only
  split <;> rfl

theorem engineRevokes_authorityOnly (lost : State) (set : PosMask) (s : State) (m : MasterIx) :
    AuthorityOnly (State.engineRevokes lost set s m) s := by
  unfold State.engineRevokes
  dsimp only
  split <;> rfl

theorem revoked_permits (lost : State) (set : PosMask) (ms : List MasterIx) (s : State) :
    (ms.foldl (State.engineRevokes lost set) s).auth.permits = s.auth.permits := by
  induction ms generalizing s with
  | nil => rfl
  | cons m ms ih => exact (ih _).trans (engineRevokes_permits ..)

/-- What the engine's start leaves of the authority unit: the fitted positions under ENGINE, the news of the masters that lost theirs,
and the list scanned. -/
def engineHeld (s : State) (set : PosMask) : State :=
  (allMasters.foldl (State.engineRevokes s set)
    (withPermits s (replaced s.auth.permits (posMembers set) fun p _ => if s.fitted p then some .engine else none))).scan

/-- The engine takes a set of positions unless one is under MAINTENANCE. -/
theorem engineStartPermits_cases (s : State) (set : PosMask) :
    ((∃ p ∈ posMembers set, ∃ h, s.auth.permits[p] = some (.maintenance h)) ∧ s.engineStartPermits set = none)
      ∨ ((∀ p ∈ posMembers set, ∀ h, s.auth.permits[p] ≠ some (.maintenance h))
          ∧ s.engineStartPermits set = some (engineHeld s set)) := by
  unfold State.engineStartPermits
  split
  case isTrue hany =>
    obtain ⟨p, hp, hm⟩ := List.any_eq_true.1 hany
    split at hm
    case h_1 h heq => exact .inl ⟨⟨p, hp, h, heq⟩, rfl⟩
    case h_2 => cases hm
  case isFalse hnone =>
    refine .inr ⟨fun p hp h heq => hnone (List.any_eq_true.2 ⟨p, hp, ?_⟩), ?_⟩
    · simp only [heq]
    · rw [engineHeld, ← engineTaken_eq]

theorem engineHeld_authorityOnly (s : State) (set : PosMask) : AuthorityOnly (engineHeld s set) s :=
  authorityOnly_trans (scan_authorityOnly _)
    (authorityOnly_trans (authorityOnly_foldl (engineRevokes_authorityOnly s set) _ _) (withPermits_authorityOnly ..))

/-- A fitted position of the set is under ENGINE, which the scan leaves so. -/
theorem engineHeld_permits {s : State} {set : PosMask} {p : Pos} (hp : p ∈ posMembers set) (hfit : s.fitted p = true) :
    (engineHeld s set).auth.permits[p] = some .engine := by
  have htaken : (allMasters.foldl (State.engineRevokes s set)
      (withPermits s (replaced s.auth.permits (posMembers set) fun p _ => if s.fitted p then some .engine else none))).auth.permits[p]
        = some .engine := by
    rw [revoked_permits, withPermits_permits, replaced_apply, if_pos hp, if_pos hfit]
  rw [engineHeld, scan_settled (permitSettled_engine htaken), htaken]

/-! ### A start of the transfer engine (R134) -/

/-- A start made sets the engine to step 0 of the plan and leaves the permits. -/
theorem startMade_made (s : State) (slot : SlotIx) (cause : StartCause) :
    let set := Plan.posSet s.set.plans[slot]
    (s.startMade slot cause).auth = s.auth
      ∧ (s.startMade slot cause).eng = { s.eng with
          state := .running, run := some ⟨slot, set, 0, .waitingToIssue⟩, stepTimer := .idle, poll := none, marks := {}
          result := some { slot := slot, cause := cause, set := set, step := 0 } } := by
  intro set
  obtain ⟨hauth, heng⟩ := Prod.ext_iff.1 (withdrawMasters_authorityAndEngine (posMembers set) s)
  exact ⟨hauth, congrArg (fun e : Engine => { e with
    state := .running, run := some ⟨slot, set, 0, .waitingToIssue⟩, stepTimer := .idle, poll := none, marks := {}
    result := some { slot := slot, cause := cause, set := set, step := 0 } }) heng⟩

/-- What the permits and the start made leave together. -/
theorem startMade_engineHeld (s : State) (slot : SlotIx) (cause : StartCause) :
    let set := Plan.posSet s.set.plans[slot]
    let v := (engineHeld s set).startMade slot cause
    v.eng = { s.eng with
        state := .running, run := some ⟨slot, set, 0, .waitingToIssue⟩, stepTimer := .idle, poll := none, marks := {}
        result := some { slot := slot, cause := cause, set := set, step := 0 } }
      ∧ (∀ p ∈ posMembers set, s.fitted p = true → v.auth.permits[p] = some .engine) ∧ v.outer = s.outer := by
  intro set v
  obtain ⟨heng, houter⟩ := authorityOnly_kept (engineHeld_authorityOnly s set)
  obtain ⟨hvauth, hveng⟩ := startMade_made (engineHeld s set) slot cause
  refine ⟨?_, fun p hp hfit => ?_, ?_⟩
  · rw [hveng, authorityOnly_set (engineHeld_authorityOnly s set), heng]
  · rw [hvauth]
    exact engineHeld_permits hp hfit
  · exact (startMade_outer ..).trans houter

theorem tryStart_not_run {s : State} (h : s.modes.mode ≠ .run) (slot : SlotIx) (cause : StartCause) :
    s.tryStart slot cause = .error .hold := if_pos h

theorem tryStart_busy {s : State} (h : s.modes.mode = .run) (heng : s.eng.state ≠ .idle) (slot : SlotIx) (cause : StartCause) :
    s.tryStart slot cause = .error .busy := by
  rw [State.tryStart, if_neg (not_not_intro h), if_pos heng]

/-- Past mode and state, a start fails on a plan that cannot be run. -/
theorem tryStart_incomplete {s : State} (h : s.modes.mode = .run) (heng : s.eng.state = .idle) {slot : SlotIx}
    (hplan : Plan.runnable s.set.plans[slot] = false) (cause : StartCause) : s.tryStart slot cause = .error .incomplete := by
  rw [State.tryStart, if_neg (not_not_intro h), if_neg (not_not_intro heng), if_pos (by rw [hplan]; rfl)]

section
variable {s : State} {slot : SlotIx} (hmode : s.modes.mode = .run) (heng : s.eng.state = .idle)
  (hplan : Plan.runnable s.set.plans[slot] = true) (cause : StartCause)
include hmode heng hplan

theorem tryStart_maint (hmaint : ∃ p ∈ posMembers (Plan.posSet s.set.plans[slot]), ∃ h, s.auth.permits[p] = some (.maintenance h)) :
    s.tryStart slot cause = .error .maint := by
  obtain ⟨-, hnone⟩ | ⟨hfree, -⟩ := engineStartPermits_cases s (Plan.posSet s.set.plans[slot])
  · simp only [State.tryStart, hmode, heng, hplan, hnone, ne_eq, not_true_eq_false, if_false, Bool.not_true, Bool.false_eq_true]
  · obtain ⟨p, hp, h, heq⟩ := hmaint
    exact absurd heq (hfree p hp h)

theorem tryStart_made
    (hfree : ∀ p ∈ posMembers (Plan.posSet s.set.plans[slot]), ∀ h, s.auth.permits[p] ≠ some (.maintenance h)) :
    s.tryStart slot cause = .ok ((engineHeld s (Plan.posSet s.set.plans[slot])).startMade slot cause) := by
  obtain ⟨⟨p, hp, h, heq⟩, -⟩ | ⟨-, hsome⟩ := engineStartPermits_cases s (Plan.posSet s.set.plans[slot])
  · exact absurd heq (hfree p hp h)
  · simp only [State.tryStart, hmode, heng, hplan, hsome, ne_eq, not_true_eq_false, if_false, Bool.not_true, Bool.false_eq_true]

end

theorem exec_planStart {s u : State} {q : Req} {m : MasterIx} (h : s.hears q m) {slot : Nat} {a : Answer}
    (ha : (s.notePort q).planStart m slot = (a, u)) : exec (.planStart q slot) s = .next (u.answered q 24 a) :=
  serve_eq h 24 (fun m s => s.planStart m slot) ha

theorem finOf_val {n : Nat} (i : Fin n) : finOf n i.val = some i := by simp [finOf]

section
variable {s : State} {m : MasterIx} {slot : SlotIx} (hrole : s.roleOf m = .stationA ∨ s.roleOf m = .stationB)
include hrole

theorem planStart_refused {r : Result} (h : s.tryStart slot (.master m) = .error r) : s.planStart m slot.val = ({ code := r }, s) := by
  have hstation : (s.roleOf m).station = true := by rcases hrole with h | h <;> rw [h] <;> rfl
  simp only [State.planStart, hstation, finOf_val, h]
  rfl

theorem planStart_accepted {v : State} (h : s.tryStart slot (.master m) = .ok v) :
    s.planStart m slot.val = ({ code := .accepted }, v.engBegin) := by
  have hstation : (s.roleOf m).station = true := by rcases hrole with h | h <;> rw [h] <;> rfl
  simp only [State.planStart, hstation, finOf_val, h]
  rfl

end

/-- Settles O37: each refusal by the check that makes it, and the start by what it makes of the permits and of the engine. -/
theorem planStartMakesTheStart : Obligations.PlanStartMakesTheStart := by
  unfold Obligations.PlanStartMakesTheStart
  intro s q m slot hears hrole
  have hrole' : (s.notePort q).roleOf m = .stationA ∨ (s.notePort q).roleOf m = .stationB := by simpa
  have hmode {x : Mode} (h : s.modes.mode = x) : (s.notePort q).modes.mode = x := by rwa [notePort_modes]
  have heng {x : EngState} (h : s.eng.state = x) : (s.notePort q).eng.state = x := by rwa [notePort_eng]
  have hplan {x : Bool} (h : Plan.runnable s.set.plans[slot] = x) : Plan.runnable (s.notePort q).set.plans[slot] = x := by
    rwa [notePort_set]
  refine ⟨fun h => ?hold, fun h he => ?busy, fun h he hp => ?incomplete, fun h he hp hm => ?maint, fun h he hp hm => ?started⟩
  case hold => exact exec_planStart hears (planStart_refused hrole' (tryStart_not_run (by rwa [notePort_modes]) ..))
  case busy => exact exec_planStart hears (planStart_refused hrole' (tryStart_busy (hmode h) (by rwa [notePort_eng]) ..))
  case incomplete => exact exec_planStart hears (planStart_refused hrole' (tryStart_incomplete (hmode h) (heng he) (hplan hp) _))
  case maint =>
    have hm' := tryStart_maint (hmode h) (heng he) (hplan hp) (.master m) (by rwa [notePort_set, notePort_auth])
    exact exec_planStart hears (planStart_refused hrole' hm')
  case started =>
    have hmade := tryStart_made (hmode h) (heng he) (hplan hp) (.master m) (by rwa [notePort_set, notePort_auth])
    obtain ⟨hveng, hvpermits, hvouter⟩ := startMade_engineHeld (s.notePort q) slot (.master m)
    obtain ⟨-, hqouter⟩ := authorityOnly_kept (notePort_authorityOnly s q)
    obtain ⟨hbase, -, hpending, hvset, -, hmodes⟩ : _ ∧ _ ∧ _ ∧ _ ∧ _ ∧ _ := by
      simpa only [State.outer, Prod.mk.injEq] using hvouter.trans hqouter
    exact ⟨_, exec_planStart hears (planStart_accepted hrole' hmade), by simpa using hveng, by simpa using hvpermits,
      hbase, hvset, hmodes, hpending⟩

end Sys2Proof.Machine.Permits

/-! SUPPORT. The statement about the non-volatile stores: what each request, each frame and each event leaves of the lock word and the
stored image, then the statement from these rules. -/

namespace Sys2Proof.Machine.Stores

/-! ### What stands without power (R102, R196) -/

/-- The non-volatile stores: the lock word and the stored image. -/
def stores (s : State) : LockWord × Option Settings := (s.base.lockWord, s.base.image)

theorem stores_of_base {s t : State} (h : t.base = s.base) : stores t = stores s := by simp only [stores, h]

theorem stores_of_fixed {s t : State} (h : t.fixed = s.fixed) : stores t = stores s := stores_of_base (congrArg Prod.fst h)

theorem stores_of_outer {s t : State} (h : t.outer = s.outer) : stores t = stores s := stores_of_fixed (fixed_of_outer h)

/-! ### Requests as they are answered (R184, R185) -/

/-- An answer that leaves the non-volatile stores, whoever asks. -/
def KeepsStores (f : MasterIx → State → Answer × State) : Prop := ∀ m s, stores (f m s).2 = stores s

theorem keepsStores_of_outer {f : MasterIx → State → Answer × State} (h : ∀ m s, (f m s).2.outer = s.outer) : KeepsStores f :=
  fun m s => stores_of_outer (h m s)

theorem keepsStores_reading (f : State → Answer) : KeepsStores (reading f) := fun _ _ => rfl

theorem matched_stores {f : MasterIx → State → Answer × State} (hf : KeepsStores f) (sender : Nat) (s : State) :
    stores (State.matched sender f s).2 = stores s := by
  unfold State.matched
  split
  · rfl
  · exact hf _ _

theorem respond_stores {f : State → Answer × State} (hf : ∀ s, stores (f s).2 = stores s) (s : State) (c : Caller) :
    stores (s.respond c f) = stores s := by
  unfold State.respond
  dsimp only
  split
  · rfl
  · have hport : stores (s.notePort c.req) = stores s := stores_of_base (notePort_base ..)
    split
    · exact hport
    · exact (stores_of_base (queueReply_base ..)).trans ((hf _).trans hport)

theorem serve_stores {f : MasterIx → State → Answer × State} (hf : KeepsStores f) (s : State) (q : Req) (ident : Nat) :
    stores (s.serve q ident f) = stores s := respond_stores (matched_stores hf q.sender) s _

theorem afterWrite_stores (old : Settings) (s : State) (k : SettingKey) : stores (State.afterWrite old s k) = stores s := by
  unfold State.afterWrite
  split
  · exact stores_of_outer (takeFitting_outer ..)
  · split <;> rfl
  · rfl
  · rfl

theorem carryWrite_stores (s : State) (k : SettingKey) (v : Nat) (t : Settings) : stores (s.carryWrite k v t) = stores s := by
  unfold State.carryWrite
  split
  · rfl
  · exact afterWrite_stores ..

theorem settingWrite_keeps (row place : Nat) (index : List Nat) (v : Nat) :
    KeepsStores fun m s => s.settingWrite m row place index v := by
  intro m s
  dsimp only
  unfold State.settingWrite
  split
  · rfl
  · split
    · rfl
    · split
      · rfl
      · split
        · rfl
        · split
          · rfl
          · exact carryWrite_stores ..

theorem saveRequest_keeps : KeepsStores fun m s => s.saveRequest m := by
  intro m s
  dsimp only
  unfold State.saveRequest
  (repeat' split) <;> rfl

theorem setGuard_keeps (level : Nat) : KeepsStores fun m s => s.setGuard m level := by
  intro m s
  dsimp only
  unfold State.setGuard
  (repeat' split) <;> rfl

theorem holdRequest_keeps : KeepsStores fun m s => s.holdRequest m := by
  intro m s
  dsimp only
  unfold State.holdRequest
  split
  · rfl
  · exact stores_of_fixed (enterHold_fixed ..)

theorem runRequest_keeps : KeepsStores fun m s => s.runRequest m := by
  intro m s
  dsimp only
  unfold State.runRequest
  (repeat' split) <;> rfl

theorem planWrite_keeps (slot start : Nat) (raw : List RawStep) : KeepsStores fun m s => s.planWrite m slot start raw := by
  intro m s
  dsimp only
  unfold State.planWrite
  (repeat' split) <;> rfl

theorem planClear_keeps (slot : Nat) : KeepsStores fun m s => s.planClear m slot := by
  intro m s
  dsimp only
  unfold State.planClear
  (repeat' split) <;> rfl

theorem changeCombine_stores (s : State) (c : CombineMode) : stores (s.changeCombine c) = stores s := by
  unfold State.changeCombine
  split <;> rfl

theorem setCombine_keeps (mode : Nat) : KeepsStores fun m s => s.setCombine m mode := by
  intro m s
  dsimp only
  unfold State.setCombine
  split
  · rfl
  · split
    · rfl
    · split
      · rfl
      · exact changeCombine_stores ..

theorem releaseRecord_keeps (seq : Nat) : KeepsStores fun m s => s.releaseRecord m seq := by
  intro m s
  dsimp only
  unfold State.releaseRecord
  split
  · rfl
  · exact stores_of_outer (recordRelease_outer ..)

theorem readNotices_keeps : KeepsStores fun m s => s.readNotices m := fun _ _ => rfl

/-! ### Requests as they are read from a frame (R193) -/

/-- A reading whose answer leaves the non-volatile stores. -/
def ReadingKeeps : Reading → Prop
  | .request f => KeepsStores f
  | _ => True

theorem readingKeeps_answer {r : Reading} (h : ReadingKeeps r) (sender : Nat) (s : State) :
    stores (r.answer sender s).2 = stores s := by
  cases r with
  | malformed => rfl
  | outOfRange => exact matched_stores (fun _ _ => rfl) sender s
  | request f => exact matched_stores h sender s

theorem withFlag_keeps {g : Bool → MasterIx → State → Answer × State} (hg : ∀ x, KeepsStores (g x)) (b : Byte) :
    ReadingKeeps (withFlag b fun x => .request (g x)) := by
  unfold withFlag
  split
  · exact hg _
  · trivial

theorem readLayerWrite_keeps (b count : Byte) (rest : List Byte) : ReadingKeeps (readLayerWrite b count rest) := by
  unfold readLayerWrite
  split
  · trivial
  · exact keepsStores_of_outer fun _ _ => layerWrite_outer ..

theorem readPlanWrite_keeps (b : Byte) (rest : List Byte) : ReadingKeeps (readPlanWrite b rest) := by
  unfold readPlanWrite
  split
  · exact planWrite_keeps _ _ _
  · trivial

theorem readSettingWrite_keeps (row place : Byte) (rest : List Byte) : ReadingKeeps (readSettingWrite row place rest) := by
  unfold readSettingWrite
  dsimp only
  split
  · exact settingWrite_keeps _ _ _ _
  · split
    · trivial
    · split
      · exact settingWrite_keeps _ _ _ _
      · split
        · trivial
        · exact settingWrite_keeps _ _ _ _

theorem readSettingRead_keeps (row place : Byte) (rest : List Byte) : ReadingKeeps (readSettingRead row place rest) := by
  unfold readSettingRead
  dsimp only
  split
  · trivial
  · split
    · exact keepsStores_reading _
    · split
      · exact keepsStores_reading _
      · trivial

theorem readSyncStep_keeps (pos action : Byte) : ReadingKeeps (readSyncStep pos action) := by
  unfold readSyncStep
  split
  · exact keepsStores_of_outer fun _ _ => syncLatch_outer ..
  · exact keepsStores_of_outer fun _ _ => syncClose_outer ..
  · trivial

/-- Every request named in Table 11.13, by its identity and the shapes its payload may have. -/
theorem readRequest_keeps : (ident : Nat) → (payload : List Byte) → ReadingKeeps (readRequest ident payload)
  | 0, _ => trivial
  | 1, [_, _] | 1, [_, _, _] => keepsStores_reading _
  | 1, [] | 1, [_] | 1, _ :: _ :: _ :: _ :: _ => trivial
  | 2, [] => readNotices_keeps
  | 2, _ :: _ => trivial
  | 3, [_, _, _, _, _, _] => withFlag_keeps (fun _ => keepsStores_of_outer fun _ _ => permitReq_outer ..) _
  | 3, [] | 3, [_] | 3, [_, _] | 3, [_, _, _] | 3, [_, _, _, _] | 3, [_, _, _, _, _] | 3, _ :: _ :: _ :: _ :: _ :: _ :: _ :: _ => trivial
  | 4, [_, _, _, _] => withFlag_keeps (fun _ => keepsStores_of_outer fun _ _ => permitRelease_outer ..) _
  | 4, [] | 4, [_] | 4, [_, _] | 4, [_, _, _] | 4, _ :: _ :: _ :: _ :: _ :: _ => trivial
  | 5, [_, _, _] => keepsStores_of_outer fun _ _ => permitRenew_outer ..
  | 5, [] | 5, [_] | 5, [_, _] | 5, _ :: _ :: _ :: _ :: _ => trivial
  | 6, _ :: _ :: _ => readLayerWrite_keeps ..
  | 6, [] | 6, [_] => trivial
  | 7, [_] => keepsStores_of_outer fun _ _ => layerCommit_outer ..
  | 7, [] | 7, _ :: _ :: _ => trivial
  | 8, [_] => keepsStores_of_outer fun _ _ => layerAbandon_outer ..
  | 8, [] | 8, _ :: _ :: _ => trivial
  | 9, [_, _, _, _] | 9, [_, _, _, _, _] => keepsStores_reading _
  | 9, [] | 9, [_] | 9, [_, _] | 9, [_, _, _] | 9, _ :: _ :: _ :: _ :: _ :: _ :: _ => trivial
  | 10, [_] => setCombine_keeps _
  | 10, [] | 10, _ :: _ :: _ => trivial
  | 11, [_] => keepsStores_of_outer fun _ _ => masterOpen_outer ..
  | 11, [] | 11, _ :: _ :: _ => trivial
  | 12, [_] => keepsStores_of_outer fun _ _ => masterClose_outer ..
  | 12, [] | 12, _ :: _ :: _ => trivial
  | 13, [_, _] => keepsStores_of_outer fun _ _ => masterCloseSync_outer ..
  | 13, [] | 13, [_] | 13, _ :: _ :: _ :: _ => trivial
  | 14, [_] => keepsStores_of_outer fun _ _ => resetTrip_outer ..
  | 14, [] | 14, _ :: _ :: _ => trivial
  | 15, [_] => keepsStores_of_outer fun _ _ => masterUnshed_outer ..
  | 15, [] | 15, _ :: _ :: _ => trivial
  | 16, [_, _, _, _, _] => keepsStores_of_outer fun _ _ => groupSwitch_outer ..
  | 16, [] | 16, [_] | 16, [_, _] | 16, [_, _, _] | 16, [_, _, _, _] | 16, _ :: _ :: _ :: _ :: _ :: _ :: _ => trivial
  | 17, [_, _] => keepsStores_of_outer fun _ _ => groupForce_outer ..
  | 17, [] | 17, [_] | 17, _ :: _ :: _ :: _ => trivial
  | 18, [_] | 18, [_, _] => keepsStores_reading _
  | 18, [] | 18, _ :: _ :: _ :: _ => trivial
  | 19, [_, _] => releaseRecord_keeps _
  | 19, [] | 19, [_] | 19, _ :: _ :: _ :: _ => trivial
  | 20, [_] => keepsStores_of_outer fun _ _ => autoTransfer_outer ..
  | 20, [] | 20, _ :: _ :: _ => trivial
  | 21, _ :: _ => readPlanWrite_keeps ..
  | 21, [] => trivial
  | 22, [_] => planClear_keeps _
  | 22, [] | 22, _ :: _ :: _ => trivial
  | 23, [_, _, _] | 23, [_, _, _, _] => keepsStores_reading _
  | 23, [] | 23, [_] | 23, [_, _] | 23, _ :: _ :: _ :: _ :: _ :: _ => trivial
  | 24, [_] => keepsStores_of_outer fun _ _ => planStart_outer ..
  | 24, [] | 24, _ :: _ :: _ => trivial
  | 25, [] => keepsStores_of_outer fun _ _ => planResume_outer ..
  | 25, _ :: _ => trivial
  | 26, [] => keepsStores_of_outer fun _ _ => planAbandon_outer ..
  | 26, _ :: _ => trivial
  | 27, [_, _] => readSyncStep_keeps ..
  | 27, [] | 27, [_] | 27, _ :: _ :: _ :: _ => trivial
  | 28, [_] => keepsStores_of_outer fun _ _ => syncCancel_outer ..
  | 28, [] | 28, _ :: _ :: _ => trivial
  | 29, [_, _] => keepsStores_of_outer fun _ _ => admitGen_outer ..
  | 29, [] | 29, [_] | 29, _ :: _ :: _ :: _ => trivial
  | 30, [_] => keepsStores_of_outer fun _ _ => withdrawGen_outer ..
  | 30, [] | 30, _ :: _ :: _ => trivial
  | 31, [_] => keepsStores_of_outer fun _ _ => clearLockout_outer ..
  | 31, [] | 31, _ :: _ :: _ => trivial
  | 32, _ :: _ :: _ => readSettingWrite_keeps ..
  | 32, [] | 32, [_] => trivial
  | 33, _ :: _ :: _ => readSettingRead_keeps ..
  | 33, [] | 33, [_] => trivial
  | 34, [] => saveRequest_keeps
  | 34, _ :: _ => trivial
  | 35, [_] => setGuard_keeps _
  | 35, [] | 35, _ :: _ :: _ => trivial
  | 36, [] => holdRequest_keeps
  | 36, _ :: _ => trivial
  | 37, [] => runRequest_keeps
  | 37, _ :: _ => trivial
  | _ + 38, _ => trivial

theorem reading_keeps (f : RawFrame) : ReadingKeeps f.reading := by
  unfold RawFrame.reading
  split
  · exact readRequest_keeps ..
  · trivial

/-- A frame received serves at most one request. -/
theorem frameReceived_stores (s : State) (i : PortIx) (bytes : List Byte) : stores (s.frameReceived i bytes) = stores s := by
  have hport : ∀ g, stores (s.updPort i g) = stores s := fun g => stores_of_base (updPort_base ..)
  unfold State.frameReceived
  split
  · rfl
  · split
    · exact hport _
    · dsimp only
      split
      · exact hport _
      · rename_i f _
        split
        · exact (respond_stores (readingKeeps_answer (reading_keeps f) f.sender) _ _).trans (hport _)
        · exact hport _

/-! ### The other events -/

theorem warmReset_stores (s : State) : stores s.warmReset = stores s := by
  unfold State.warmReset
  split <;> rfl

theorem sampleStop_base (s : State) : s.sampleStop.base = s.base := by
  unfold State.sampleStop
  split
  · exact congrArg Prod.fst (doStop_fixed s)
  · rfl

theorem warmResetEnd_stores (s : State) : stores s.warmResetEnd = stores s := by
  unfold State.warmResetEnd
  split
  · rfl
  · exact (stores_of_base (sampleStop_base _)).trans rfl

theorem stopAsserted_stores (s : State) : stores s.stopAsserted = stores s := by
  unfold State.stopAsserted
  dsimp only
  split
  · exact (stores_of_fixed (doStop_fixed _)).trans rfl
  · rfl

theorem contactChange_stores (s : State) (p : Pos) (a b : Bool) : stores (s.contactChange p a b) = stores s := by
  unfold State.contactChange
  dsimp only
  split
  · exact (stores_of_outer ((actOnFeedback_outer ..).trans (updPos_outer ..))).trans rfl
  · rfl

theorem boundary_stores (s : State) (byMarker : Bool) : stores (s.boundary byMarker) = stores s := rfl

theorem measArrive_stores (s : State) (bytes : List Byte) : stores (s.measArrive bytes) = stores s := by
  unfold State.measArrive
  split
  · rfl
  · split
    · rfl
    · unfold State.measMarker
      split
      · exact boundary_stores ..
      · rfl
    · rfl

theorem roundExpiry_stores (s : State) : stores s.roundExpiry = stores s := by
  unfold State.roundExpiry
  split
  · exact boundary_stores ..
  · rfl

theorem measLostEntry_stores (s : State) (c : Chan) : stores (s.measLostEntry c) = stores s := by
  unfold State.measLostEntry
  split <;> rfl

theorem linkIdle_stores (s : State) (i : PortIx) : stores (s.linkIdle i) = stores s := by
  unfold State.linkIdle
  (repeat' split) <;> rfl

theorem arbitrationLost_stores (s : State) (i : PortIx) : stores (s.arbitrationLost i) = stores s := by
  unfold State.arbitrationLost
  split <;> rfl

theorem leaveSource_stores (s : State) (i : PortIx) (f : OutFrame) : stores (s.leaveSource i f) = stores s := by
  unfold State.leaveSource
  split <;> rfl

theorem transmitError_stores (s : State) (i : PortIx) : stores (s.transmitError i) = stores s := by
  unfold State.transmitError
  split
  · rfl
  · exact (stores_of_base (updPort_base ..)).trans (leaveSource_stores ..)

theorem clearDropped_stores (s : State) (f : OutFrame) : stores (s.clearDropped f) = stores s := by
  unfold State.clearDropped
  split <;> rfl

theorem sentCleanly_stores (s : State) (i : PortIx) : stores (s.sentCleanly i) = stores s := by
  unfold State.sentCleanly
  split
  · rfl
  · exact (clearDropped_stores ..).trans ((stores_of_base (updPort_base ..)).trans (leaveSource_stores ..))

theorem beaconExpiry_stores (s : State) : stores s.beaconExpiry = stores s := by
  unfold State.beaconExpiry
  split <;> rfl

/-! ### Every command -/

section
variable {s t u : State}

/-- The end of a command leaves the stores as its own operation left them. -/
theorem stores_next (h : (.next u.finish : Host.Outcome State Fault Refusal) = .next t) : stores t = stores u := by
  cases h
  exact stores_of_base (finish_base u)

theorem event_stores (h : (.next u.finish : Host.Outcome State Fault Refusal) = .next t) (hu : stores u = stores s) :
    stores t = stores s := (stores_next h).trans hu

theorem event_outer (h : (.next u.finish : Host.Outcome State Fault Refusal) = .next t) (hu : u.outer = s.outer) :
    stores t = stores s := event_stores h (stores_of_outer hu)

theorem request_stores {q : Req} {ident : Nat} {f : MasterIx → State → Answer × State}
    (h : (.next (s.serve q ident f).finish : Host.Outcome State Fault Refusal) = .next t) (hf : KeepsStores f) :
    stores t = stores s := event_stores h (serve_stores hf ..)

theorem request_outer {q : Req} {ident : Nat} {f : MasterIx → State → Answer × State}
    (h : (.next (s.serve q ident f).finish : Host.Outcome State Fault Refusal) = .next t) (hf : ∀ m s, (f m s).2.outer = s.outer) :
    stores t = stores s := request_stores h (keepsStores_of_outer hf)

end

/-- No command but the end of a lock-word program, the end of a save and a change of the supply writes a non-volatile store. -/
theorem exec_stores {c : Instr} {s t : State} (h : exec c s = .next t) (hlock : c ≠ .lockWordProgramComplete)
    (hsave : c ≠ .saveComplete) (hsupply : changesSupply c = false) : stores t = stores s := by
  cases c with
  | powerOnReset => cases hsupply
  | lossOfPower => cases hsupply
  | lockWordProgramComplete => exact absurd rfl hlock
  | saveComplete => exact absurd rfl hsave
  | warmReset => exact event_stores h (warmReset_stores _)
  | warmResetEnd => exact event_stores h (warmResetEnd_stores _)
  | contactChange => exact event_stores h (contactChange_stores ..)
  | travelTimerExpiry => exact event_outer h (travelExpiry_outer ..)
  | discrepancyTimerExpiry => exact event_outer h (discExpiry_outer ..)
  | recoveryTimerExpiry => exact event_outer h (recoveryExpiry_outer ..)
  | closeTimerExpiry => exact event_outer h (closeExpiry_outer ..)
  | openTimerExpiry => exact event_outer h (openExpiry_outer ..)
  | measurementDataFrame => exact event_stores h (measArrive_stores ..)
  | endOfRound => exact event_stores h (measArrive_stores ..)
  | roundTimerExpiry => exact event_stores h (roundExpiry_stores _)
  | measLostEntry => exact event_stores h (measLostEntry_stores ..)
  | elementOperate => exact event_outer h (elementOperate_outer ..)
  | zoneHoldExpiry => exact event_outer h (zoneHoldExpiry_outer ..)
  | bfTimerExpiry => exact event_stores h (stores_of_fixed (bfExpiry_fixed ..))
  | upstreamLineTimerExpiry => exact event_outer h (upstreamExpiry_outer ..)
  | stopAsserted => exact event_stores h (stopAsserted_stores _)
  | stopReleased => exact event_stores h (rfl)
  | leaseExpiry => exact event_outer h (leaseExpiry_outer ..)
  | waitTimerExpiry => exact event_outer h (waitExpiry_outer ..)
  | permitReq => exact request_outer h fun _ _ => permitReq_outer ..
  | permitRelease => exact request_outer h fun _ _ => permitRelease_outer ..
  | permitRenew => exact request_outer h fun _ _ => permitRenew_outer ..
  | layerWrite => exact request_outer h fun _ _ => layerWrite_outer ..
  | layerCommit => exact request_outer h fun _ _ => layerCommit_outer ..
  | layerAbandon => exact request_outer h fun _ _ => layerAbandon_outer ..
  | layerRead => exact request_stores h (keepsStores_reading _)
  | setCombine => exact request_stores h (setCombine_keeps _)
  | openCmd => exact request_outer h fun _ _ => masterOpen_outer ..
  | closeCmd => exact request_outer h fun _ _ => masterClose_outer ..
  | closeSync => exact request_outer h fun _ _ => masterCloseSync_outer ..
  | resetTrip => exact request_outer h fun _ _ => resetTrip_outer ..
  | unshed => exact request_outer h fun _ _ => masterUnshed_outer ..
  | overlapTimerExpiry => exact event_outer h (overlapExpiry_outer ..)
  | groupSwitch => exact request_outer h fun _ _ => groupSwitch_outer ..
  | deadTimerExpiry => exact event_outer h (deadExpiry_outer ..)
  | groupForce => exact request_outer h fun _ _ => groupForce_outer ..
  | recordRead => exact request_stores h (keepsStores_reading _)
  | recordRelease => exact request_stores h (releaseRecord_keeps _)
  | stabilityProved => exact event_outer h (stabilityProved_outer ..)
  | lossTimerExpiry => exact event_outer h (lossExpiry_outer ..)
  | autoTransfer => exact request_outer h fun _ _ => autoTransfer_outer ..
  | planWrite => exact request_stores h (planWrite_keeps _ _ _)
  | planClear => exact request_stores h (planClear_keeps _)
  | planRead => exact request_stores h (keepsStores_reading _)
  | planStart => exact request_outer h fun _ _ => planStart_outer ..
  | pollTimerExpiry => exact event_outer h (pollExpiry_outer ..)
  | stepTimerExpiry => exact event_outer h (stepExpiry_outer ..)
  | deadTimeMarkExpiry => exact event_outer h (markExpiry_outer ..)
  | planResume => exact request_outer h fun _ _ => planResume_outer ..
  | planAbandon => exact request_outer h fun _ _ => planAbandon_outer ..
  | zeroCrossingEdge => exact event_outer h (zeroCrossing_outer ..)
  | windowConfirmed => exact event_outer h (windowConfirmed_outer ..)
  | edgeSupervisionExpiry => exact event_outer h (edgeExpiry_outer ..)
  | attemptTimerExpiry => exact event_outer h (attemptExpiry_outer ..)
  | periodTimerExpiry => exact event_outer h (periodExpiry_outer ..)
  | onTimerExpiry => exact event_outer h (onExpiry_outer ..)
  | syncStepLatch => exact request_outer h fun _ _ => syncLatch_outer ..
  | syncStepClose => exact request_outer h fun _ _ => syncClose_outer ..
  | syncCancel => exact request_outer h fun _ _ => syncCancel_outer ..
  | genAdmit => exact request_outer h fun _ _ => admitGen_outer ..
  | genWithdraw => exact request_outer h fun _ _ => withdrawGen_outer ..
  | generatorLockout => exact event_outer h (checkLockout_outer ..)
  | clearLockout => exact request_outer h fun _ _ => clearLockout_outer ..
  | readmitComplete => exact event_outer h (readmitComplete_outer ..)
  | fitCountRestore => exact event_outer h (fitRestore_outer ..)
  | spacingTimerExpiry => exact event_outer h (spacingExpiry_outer ..)
  | stationFrameReceived => exact event_stores h (frameReceived_stores ..)
  | linkIdleOffer => exact event_stores h (linkIdle_stores ..)
  | arbitrationLost => exact event_stores h (arbitrationLost_stores ..)
  | transmitError => exact event_stores h (transmitError_stores ..)
  | frameSentCleanly => exact event_stores h (sentCleanly_stores ..)
  | readNotices => exact request_stores h readNotices_keeps
  | beaconTimerExpiry => exact event_stores h (beaconExpiry_stores _)
  | readRecord => exact request_stores h (keepsStores_reading _)
  | settingWrite => exact request_stores h (settingWrite_keeps _ _ _ _)
  | settingRead => exact request_stores h (keepsStores_reading _)
  | save => exact request_stores h saveRequest_keeps
  | setGuard => exact request_stores h (setGuard_keeps _)
  | hold => exact request_stores h holdRequest_keeps
  | run => exact request_stores h runRequest_keeps
  | settleComplete => exact event_stores h (stores_of_fixed (settleComplete_fixed _))

theorem powerUp_lockWord (s : State) : s.powerUp.base.lockWord = s.base.lockWord := by
  unfold State.powerUp
  dsimp only
  rw [sampleStop_base]
  rfl

theorem powerOnReset_lockWord (s : State) : s.powerOnReset.base.lockWord = s.base.lockWord := by
  unfold State.powerOnReset
  split
  · exact powerUp_lockWord s
  · exact powerUp_lockWord s.losePower

theorem saveComplete_lockWord (s : State) : s.saveComplete.base.lockWord = s.base.lockWord := by
  unfold State.saveComplete
  (repeat' split) <;> rfl

theorem lockProgramComplete_image (s : State) : s.lockProgramComplete.base.image = s.base.image := by
  unfold State.lockProgramComplete
  (repeat' split) <;> rfl

theorem next_base {u t : State} (h : (.next u.finish : Host.Outcome State Fault Refusal) = .next t) : t.base = u.base := by
  cases h
  exact finish_base u

/-- Every command but the end of a lock-word program leaves the lock word, a save and a change of the supply with it. -/
theorem exec_lockWord {c : Instr} {s t : State} (h : exec c s = .next t) (hc : c ≠ .lockWordProgramComplete) :
    t.base.lockWord = s.base.lockWord := by
  by_cases hsave : c = .saveComplete
  · subst hsave
    rw [next_base h, saveComplete_lockWord]
  · cases hsupply : changesSupply c with
    | false => exact congrArg Prod.fst (exec_stores h hc hsave hsupply)
    | true =>
      cases c with
      | powerOnReset => rw [next_base h, powerOnReset_lockWord]
      | lossOfPower => rw [next_base h]; rfl
      | _ => cases hsupply

theorem exec_image {c : Instr} {s t : State} (h : exec c s = .next t) (hc : c ≠ .saveComplete) (hsupply : changesSupply c = false) :
    t.base.image = s.base.image := by
  by_cases hlock : c = .lockWordProgramComplete
  · subst hlock
    rw [next_base h, lockProgramComplete_image]
  · exact congrArg Prod.snd (exec_stores h hlock hc hsupply)

/-- Settles O60, by what each command's own operation writes of the base. -/
theorem nonVolatileStoresKept : Obligations.NonVolatileStoresKept := by
  unfold Obligations.NonVolatileStoresKept
  exact ⟨fun c s t => exec_lockWord, fun c s t => exec_image⟩

end Sys2Proof.Machine.Stores

/-! SUPPORT. The statements of Section 6: the lock-word program, the fault ring and the station stop. First what a trip request leaves,
then the statements from these rules. -/

namespace Sys2Proof.Machine.Tripping

/-! ### The lock word (R102) -/

theorem settleLock_starts {s : State} (hask : s.lockAsk = true) (hprog : s.router.prog = none) :
    s.settleLock = { s with lockAsk := false, router := { s.router with prog := some ⟨s.lockFlags, some 20⟩ } } := by
  unfold State.settleLock
  rw [if_pos hask, hprog]

theorem settleLock_waits {s : State} (hask : s.lockAsk = true) (hprog : s.router.prog ≠ none) :
    s.settleLock = { s with lockAsk := false, router := { s.router with progPending := true } } := by
  obtain ⟨g, hg⟩ := Option.ne_none_iff_exists'.1 hprog
  unfold State.settleLock
  rw [if_pos hask, hg]

theorem lockProgramComplete_idle {s : State} (h : s.router.prog = none) : s.lockProgramComplete = s := by
  unfold State.lockProgramComplete
  rw [h]

theorem lockProgramComplete_running {s : State} {g : LockProg} (h : s.router.prog = some g) :
    s.lockProgramComplete
      = { s with
          base := { s.base with lockWord := g.capture }
          router := if s.router.progPending then { s.router with prog := some ⟨s.lockFlags, some 20⟩, progPending := false }
            else { s.router with prog := none } } := by
  unfold State.lockProgramComplete
  rw [h]
  dsimp only
  split <;> rfl

theorem exec_lockWordProgramComplete (s : State) : exec .lockWordProgramComplete s = .next s.lockProgramComplete.finish := rfl

/-! ### The fault ring (R112, R115) -/

theorem storeRecord_room {s : State} (h : s.router.ring.length < 32) (p : Pos) (c : TripCause) (v : Option Nat) (g : Grp)
    (parent : Option (BitVec 16)) :
    s.storeRecord p c v g parent
      = (some s.router.nextSeq,
          State.raise
            { s with router := { s.router with
                ring := s.router.ring
                  ++ [⟨s.router.nextSeq, s.base.timeBase, p, c, v, g, s.feeds.get (recordBus p), parent, [], .opened⟩]
                nextSeq := s.router.nextSeq + 1 } } .record) := if_pos h

theorem storeRecord_full {s : State} (h : 32 ≤ s.router.ring.length) (p : Pos) (c : TripCause) (v : Option Nat) (g : Grp)
    (parent : Option (BitVec 16)) :
    (s.storeRecord p c v g parent).1 = none ∧ (s.storeRecord p c v g parent).2.router = { s.router with overrun := true } := by
  unfold State.storeRecord
  rw [if_neg (by omega)]
  split
  case isTrue hover => exact ⟨rfl, by rw [← hover]⟩
  case isFalse => exact ⟨rfl, rfl⟩

theorem exec_recordRelease {s u : State} {q : Req} {m : MasterIx} (h : s.hears q m) (hrole : s.roleOf m ≠ .view) {n : Nat} {r : Result}
    (hr : (s.notePort q).recordRelease n = (r, u)) : exec (.recordRelease q n) s = .next (u.answered q 19 { code := r }) := by
  refine serve_eq h 19 (fun m s => s.releaseRecord m n) ?_
  rw [State.releaseRecord, notePort_roleOf, if_neg hrole, hr]

section
variable {s : State} {r : FaultRec} {rest : List FaultRec} (hring : s.router.ring = r :: rest)
include hring

theorem recordRelease_head (ho : r.outcome ≠ .opened) :
    s.recordRelease r.seq.toNat
      = (.done, { s with router := { s.router with ring := rest, overrun := if rest = [] then false else s.router.overrun } }) := by
  simp only [State.recordRelease, hring, ne_eq, not_true_eq_false, ho, if_false]

theorem recordRelease_incomplete (ho : r.outcome = .opened) : s.recordRelease r.seq.toNat = (.incomplete, s) := by
  simp only [State.recordRelease, hring, ne_eq, not_true_eq_false, ho, if_false, if_true]

theorem recordRelease_notFound {n : Nat} (hn : n ≠ r.seq.toNat) : s.recordRelease n = (.notFound, s) := by
  simp only [State.recordRelease, hring, ne_eq, hn.symm, not_false_eq_true, if_true]

end

/-! ### Durations (R34) -/

theorem duration_eq (later earlier : Stamp) :
    duration later earlier = (later.toNat + 4294967296 - earlier.toNat) % 4294967296 := by
  have := earlier.isLt
  rw [duration, BitVec.toNat_sub]
  omega

/-- Settles O22: the program by its two ends, the ring by its room and its head, and the difference of two stamps. -/
theorem lockWordAndFaultRing : Obligations.LockWordAndFaultRing := by
  unfold Obligations.LockWordAndFaultRing
  refine ⟨fun s => ⟨settleLock_starts, settleLock_waits, fun h => ?idle, fun g h => ?running⟩,
    ⟨fun s p c v g parent => ⟨fun h => ?room, fun h => storeRecord_full h p c v g parent⟩,
      fun s q m r rest hears hrole hring => ?release⟩, duration_eq⟩
  case idle => rw [exec_lockWordProgramComplete, lockProgramComplete_idle h]
  case running => rw [exec_lockWordProgramComplete, lockProgramComplete_running h]
  case room =>
    rw [storeRecord_room h]
    exact ⟨rfl, rfl, rfl, rfl⟩
  case release =>
    have hnoted : (s.notePort q).router.ring = r :: rest := by rwa [notePort_router]
    refine ⟨fun ho => ?_, fun ho => exec_recordRelease hears hrole (recordRelease_incomplete hnoted ho),
      fun n hn => exec_recordRelease hears hrole (recordRelease_notFound hnoted hn)⟩
    rw [exec_recordRelease hears hrole (recordRelease_head hnoted ho), notePort_router]

/-! ### What a trip request leaves (R98 to R101) -/

/-- The state differs from another at one position and its active trip at most, besides the fault ring, the lock-word update asked for, and
what a change of position hands on. -/
structure LeavesBut (p : Pos) (u s : State) : Prop where
  frame :
    { u with pos := s.pos, feeds := s.feeds, link := s.link, inbox := s.inbox, router := s.router, lockAsk := s.lockAsk } = s
  pos : samePositionsBut p u s
  active : ∀ q : Pos, q ≠ p → u.router.active[q] = s.router.active[q]
  stopPending : u.router.stopPending = s.router.stopPending

theorem leavesBut_refl (p : Pos) (s : State) : LeavesBut p s s := ⟨rfl, fun _ _ => rfl, fun _ _ => rfl, rfl⟩

theorem leavesBut_trans {p : Pos} {u t s : State} (hu : LeavesBut p u t) (ht : LeavesBut p t s) : LeavesBut p u s where
  frame :=
    calc ({ u with pos := s.pos, feeds := s.feeds, link := s.link, inbox := s.inbox, router := s.router, lockAsk := s.lockAsk } : State)
      _ = { ({ u with
              pos := t.pos, feeds := t.feeds, link := t.link, inbox := t.inbox, router := t.router, lockAsk := t.lockAsk } : State) with
            pos := s.pos, feeds := s.feeds, link := s.link, inbox := s.inbox, router := s.router, lockAsk := s.lockAsk } := rfl
      _ = s := by rw [hu.frame, ht.frame]
  pos := fun q hq => (hu.pos q hq).trans (ht.pos q hq)
  active := fun q hq => (hu.active q hq).trans (ht.active q hq)
  stopPending := hu.stopPending.trans ht.stopPending

theorem leavesBut_set {p : Pos} {u s : State} (h : LeavesBut p u s) : u.set = s.set :=
  (congrArg State.set h.frame :)

theorem raise_leaves (s : State) (p : Pos) (c : NoticeClass) : LeavesBut p (s.raise c) s := ⟨rfl, fun _ _ => rfl, fun _ _ => rfl, rfl⟩

theorem askLock_leaves (s : State) (p : Pos) : LeavesBut p s.askLock s := ⟨rfl, fun _ _ => rfl, fun _ _ => rfl, rfl⟩

theorem hand_leaves (s : State) (p : Pos) (w : Handed) : LeavesBut p (s.hand w) s := ⟨rfl, fun _ _ => rfl, fun _ _ => rfl, rfl⟩

theorem updRecord_leaves (s : State) (p : Pos) (n : BitVec 16) (f : FaultRec → FaultRec) :
    LeavesBut p { s with router := s.router.updRecord n f } s := ⟨rfl, fun _ _ => rfl, fun _ _ => rfl, rfl⟩

theorem updPos_leaves (s : State) (p : Pos) (f : PosRec → PosRec) : LeavesBut p (s.updPos p f) s :=
  ⟨rfl, fun _ hq => updPos_other s hq f, fun _ _ => rfl, rfl⟩

theorem setPosState_leaves (s : State) (p : Pos) (st : PosState) (k : ChangeKind) : LeavesBut p (s.setPosState p st k) s := by
  have hframe : ({ s.setPosState p st k with pos := s.pos, feeds := s.feeds, link := s.link, inbox := s.inbox } : State) = s := by
    by_cases h : s.pos[p].state = st
    · rw [setPosState_same h]
    · exact (setPosState_change h k).2.2.2
  have hrouter : (s.setPosState p st k).router = s.router := (congrArg State.router hframe :)
  exact ⟨(congrArg (fun x : State => { x with router := s.router, lockAsk := s.lockAsk }) hframe :),
    fun q hq => setPosState_other s hq st k, fun q _ => by rw [hrouter], by rw [hrouter]⟩

theorem recordOutcome_leaves (s : State) (p : Pos) (oc : PulseOutcome) (o : Origin) : LeavesBut p (s.recordOutcome p oc o) s :=
  leavesBut_trans (raise_leaves ..) (updPos_leaves ..)

theorem reportTo_leaves (s : State) (p : Pos) (oc : PulseOutcome) (closing : Bool) (o : Option Origin) :
    LeavesBut p (s.reportTo p oc closing o) s := by
  cases o with
  | none => exact leavesBut_refl p s
  | some o =>
    refine leavesBut_trans (t := s.recordOutcome p oc o) ?_ (recordOutcome_leaves s p oc o)
    exact ⟨rfl, fun _ _ => rfl, fun _ _ => rfl, rfl⟩

theorem setActive_leaves (s : State) (p : Pos) (a : Option ActiveTrip) : LeavesBut p (s.setActive p a) s := by
  refine ⟨rfl, fun _ _ => rfl, fun q hq => ?_, rfl⟩
  have : (p : Nat) ≠ q := fun e => hq (Fin.ext e.symm)
  simp [this]

theorem lockFor_leaves (s : State) (p : Pos) (c : TripCause) : LeavesBut p (s.lockFor p c) s := by
  unfold State.lockFor
  split
  · exact leavesBut_refl p s
  · exact leavesBut_trans (askLock_leaves ..) (updPos_leaves ..)

theorem storeRecord_leaves (s : State) (p : Pos) (c : TripCause) (v : Option Nat) (g : Grp) (parent : Option (BitVec 16)) :
    LeavesBut p (s.storeRecord p c v g parent).2 s := by
  unfold State.storeRecord
  dsimp only
  split
  · exact ⟨rfl, fun _ _ => rfl, fun _ _ => rfl, rfl⟩
  · split
    · exact leavesBut_refl p s
    · exact ⟨rfl, fun _ _ => rfl, fun _ _ => rfl, rfl⟩

theorem handTrip_leaves (s : State) (p : Pos) (c : TripCause) : LeavesBut p (s.handTrip p c) s := by
  unfold State.handTrip
  dsimp only
  split
  · exact leavesBut_trans (hand_leaves ..) (hand_leaves ..)
  · exact hand_leaves ..

theorem tripDoneAtOnce_leaves (s : State) (p : Pos) (c : TripCause) : LeavesBut p (s.tripDoneAtOnce p c) s :=
  leavesBut_trans (handTrip_leaves ..) (leavesBut_trans (raise_leaves ..) (lockFor_leaves ..))

theorem tripStarted_leaves (s : State) (p : Pos) (c : TripCause) (v : Option Nat) (g : Grp) (parent : Option (BitVec 16)) :
    LeavesBut p (s.tripStarted p c v g parent) s :=
  leavesBut_trans (tripDoneAtOnce_leaves ..) (leavesBut_trans (setActive_leaves ..) (storeRecord_leaves ..))

theorem secondaryCause_leaves (s : State) (p : Pos) (c : TripCause) : LeavesBut p (s.secondaryCause p c) s := by
  have hlock (a : ActiveTrip) (t : State) : LeavesBut p (if a.cause = .overlap then t.lockFor p c else t) t := by
    split
    · exact lockFor_leaves t p c
    · exact leavesBut_refl p t
  unfold State.secondaryCause
  dsimp only
  split
  · exact leavesBut_refl p s
  · split
    · exact leavesBut_refl p s
    · split
      · exact leavesBut_trans (hlock ..) (setActive_leaves ..)
      · exact leavesBut_trans (raise_leaves ..) (leavesBut_trans (updRecord_leaves ..) (leavesBut_trans (hlock ..) (setActive_leaves ..)))

theorem startTrip_leaves (s : State) (p : Pos) : LeavesBut p (s.startTrip p) s :=
  leavesBut_trans (reportTo_leaves ..) (leavesBut_trans (setPosState_leaves ..) (updPos_leaves ..))

theorem tripAtOnce_leaves (s : State) (p : Pos) : LeavesBut p (s.tripAtOnce p) s :=
  leavesBut_trans (recordOutcome_leaves ..) (leavesBut_trans (setPosState_leaves ..) (updPos_leaves ..))

/-! ### A trip request by the state it finds (R11, R98 to R100) -/

/-- The position is driven, or it is to be driven since it shows no open breaker: a trip request begins a trip pulse. -/
abbrev drivesTrip (r : PosRec) : Prop :=
  r.state = .closed ∨ r.state = .closePulse ∨ r.state = .openPulse
    ∨ ((r.state = .opened ∨ r.state = .faulty) ∧ r.feedback ≠ .opened)

/-- The position is at rest and shows an open breaker: a trip request is done at once. -/
abbrev tripsAtOnce (r : PosRec) : Prop := (r.state = .opened ∨ r.state = .faulty) ∧ r.feedback = .opened

theorem tripPulse_drives {s : State} {p : Pos} (h : drivesTrip s.pos[p]) : s.tripPulse p = (.started, s.startTrip p) := by
  obtain h | h | h | ⟨h | h, hf⟩ := h
  · simp only [State.tripPulse, h]
  · simp only [State.tripPulse, h]
  · simp only [State.tripPulse, h]
  · simp only [State.tripPulse, h, hf, if_false]
  · simp only [State.tripPulse, h, hf, if_false]

theorem tripPulse_atOnce {s : State} {p : Pos} (h : tripsAtOnce s.pos[p]) : s.tripPulse p = (.atOnce, s.tripAtOnce p) := by
  obtain ⟨h | h, hf⟩ := h
  · simp only [State.tripPulse, h, hf, if_true]
  · simp only [State.tripPulse, h, hf, if_true]

theorem not_tripPulse_of_drives {r : PosRec} (h : drivesTrip r) : r.state ≠ .tripPulse := by
  obtain h | h | h | ⟨h | h, -⟩ := h <;> simp [h]

theorem not_tripPulse_of_atOnce {r : PosRec} (h : tripsAtOnce r) : r.state ≠ .tripPulse := by
  obtain ⟨h | h, -⟩ := h <;> simp [h]

/-- A position is driven by a trip, done at once, or under a trip or unfitted. -/
theorem trip_cases (r : PosRec) : drivesTrip r ∨ tripsAtOnce r ∨ r.state = .tripPulse ∨ r.state = .unfitted := by
  have hrest (h : r.state = .opened ∨ r.state = .faulty) : drivesTrip r ∨ tripsAtOnce r := by
    by_cases hf : r.feedback = .opened
    · exact .inr ⟨h, hf⟩
    · exact .inl (.inr (.inr (.inr ⟨h, hf⟩)))
  cases h : r.state with
  | closed => exact .inl (.inl h)
  | closePulse => exact .inl (.inr (.inl h))
  | openPulse => exact .inl (.inr (.inr (.inl h)))
  | opened => exact (hrest (.inl h)).imp_right .inl
  | faulty => exact (hrest (.inr h)).imp_right .inl
  | tripPulse => exact .inr (.inr (.inl rfl))
  | unfitted => exact .inr (.inr (.inr rfl))

section
variable {s : State} {p : Pos} (c : TripCause) (v : Option Nat) (g : Grp) (parent : Option (BitVec 16))

theorem tripRequest_drives (h : drivesTrip s.pos[p]) :
    s.tripRequest p c v g parent = (s.startTrip p).tripStarted p c v g parent := by
  rw [State.tripRequest, if_neg (not_tripPulse_of_drives h), tripPulse_drives h]

theorem tripRequest_atOnce (h : tripsAtOnce s.pos[p]) :
    s.tripRequest p c v g parent = (s.tripAtOnce p).tripDoneAtOnce p c := by
  rw [State.tripRequest, if_neg (not_tripPulse_of_atOnce h), tripPulse_atOnce h]

theorem tripRequest_tripping (h : s.pos[p].state = .tripPulse) : s.tripRequest p c v g parent = s.secondaryCause p c := if_pos h

theorem tripRequest_unfitted (h : s.pos[p].state = .unfitted) : s.tripRequest p c v g parent = s := by
  simp only [State.tripRequest, State.tripPulse, h, reduceCtorEq, if_false]

end

theorem tripRequest_leaves (s : State) (p : Pos) (c : TripCause) (v : Option Nat) (g : Grp) (parent : Option (BitVec 16)) :
    LeavesBut p (s.tripRequest p c v g parent) s := by
  obtain h | h | h | h := trip_cases s.pos[p]
  · rw [tripRequest_drives c v g parent h]
    exact leavesBut_trans (tripStarted_leaves ..) (startTrip_leaves ..)
  · rw [tripRequest_atOnce c v g parent h]
    exact leavesBut_trans (tripDoneAtOnce_leaves ..) (tripAtOnce_leaves ..)
  · rw [tripRequest_tripping c v g parent h]
    exact secondaryCause_leaves s p c
  · rw [tripRequest_unfitted c v g parent h]
    exact leavesBut_refl p s

/-! ### The position a trip request is for (R11, R99, R100) -/

/-- An outcome reported writes the last outcome of its position. -/
theorem reportTo_self (s : State) (p : Pos) (oc : PulseOutcome) (closing : Bool) (o : Option Origin) :
    ∃ last, (s.reportTo p oc closing o).pos[p] = { s.pos[p] with lastOutcome := last } := by
  cases o with
  | none => exact ⟨_, rfl⟩
  | some o => exact ⟨_, (congrArg (·[p]) (report_all s p oc closing o).1).trans (pos_set_self ..)⟩

/-- TRIP_LOCKED is set on the position unless the cause is OVERLAP. -/
theorem lockFor_self (s : State) (p : Pos) (c : TripCause) :
    (s.lockFor p c).pos[p] = { s.pos[p] with tripLocked := s.pos[p].tripLocked || c != .overlap } := by
  unfold State.lockFor
  split
  case isTrue h =>
    have hstands : (s.pos[p].tripLocked || c != .overlap) = s.pos[p].tripLocked := by
      obtain rfl | h := h
      · exact Bool.or_false _
      · rw [h, Bool.true_or]
    rw [hstands]
  case isFalse h =>
    rw [bne_iff_ne.2 (not_or.1 h).1, Bool.or_true]
    exact updPos_self s p fun r => { r with tripLocked := true }

theorem tripDoneAtOnce_pos (s : State) (p : Pos) (c : TripCause) : (s.tripDoneAtOnce p c).pos = (s.lockFor p c).pos := by
  unfold State.tripDoneAtOnce State.handTrip
  dsimp only
  split
  · rw [hand_pos, hand_pos, raise_pos]
  · rw [hand_pos, raise_pos]

theorem tripDoneAtOnce_self (s : State) (p : Pos) (c : TripCause) :
    (s.tripDoneAtOnce p c).pos[p] = { s.pos[p] with tripLocked := s.pos[p].tripLocked || c != .overlap } :=
  (congrArg (·[p]) (tripDoneAtOnce_pos s p c)).trans (lockFor_self s p c)

theorem tripStarted_eq (s : State) (p : Pos) (c : TripCause) (v : Option Nat) (g : Grp) (parent : Option (BitVec 16)) :
    s.tripStarted p c v g parent
      = State.tripDoneAtOnce ((s.storeRecord p c v g parent).2.setActive p
          (some ⟨c, [], c == .bfBackup, (s.storeRecord p c v g parent).1, some s.set.pos[p].bfTime, parent⟩)) p c := rfl

theorem storeRecord_pos (s : State) (p : Pos) (c : TripCause) (v : Option Nat) (g : Grp) (parent : Option (BitVec 16)) :
    (s.storeRecord p c v g parent).2.pos = s.pos := by
  unfold State.storeRecord
  (repeat' split) <;> rfl

theorem lockFor_router (s : State) (p : Pos) (c : TripCause) : (s.lockFor p c).router = s.router := by
  unfold State.lockFor
  split <;> rfl

theorem tripDoneAtOnce_router (s : State) (p : Pos) (c : TripCause) : (s.tripDoneAtOnce p c).router = s.router := by
  unfold State.tripDoneAtOnce State.handTrip
  dsimp only
  split
  · rw [hand_router, hand_router, raise_router, lockFor_router]
  · rw [hand_router, raise_router, lockFor_router]

/-- The trip is handed to the transfer engine. -/
theorem tripDoneAtOnce_hands (s : State) (p : Pos) (c : TripCause) : .tripEngine p c ∈ (s.tripDoneAtOnce p c).inbox := by
  unfold State.tripDoneAtOnce State.handTrip
  dsimp only
  split <;> simp

/-- A trip pulse started: in flight by the router, with every supervision and pulse timer cancelled. -/
theorem startTrip_self {s : State} {p : Pos} (h : s.pos[p].state ≠ .tripPulse) :
    ∃ last, (s.startTrip p).pos[p]
      = { s.pos[p] with
          state := .tripPulse, origin := some .trip, requester := none, closeTimer := none, openTimer := none, travelTimer := none
          discTimer := none, recTimer := none, lastKind := .commanded, lastStamp := s.base.timeBase, lastOutcome := last } := by
  unfold State.startTrip
  extract_lets o s1
  have hs1 : s1.pos[p] = { s.pos[p] with
      origin := some .trip, requester := none, closeTimer := none, openTimer := none, travelTimer := none, discTimer := none
      recTimer := none } := updPos_self ..
  have hne : s1.pos[p].state ≠ .tripPulse := by rwa [hs1]
  obtain ⟨last, hlast⟩ := reportTo_self (s1.setPosState p .tripPulse .commanded) p .takenByTrip (s.pos[p].state == .closePulse) o
  refine ⟨last, hlast.trans ?_⟩
  rw [(setPosState_change hne .commanded).1, pos_set_self, hs1]
  rfl

theorem startTrip_set (s : State) (p : Pos) : (s.startTrip p).set = s.set := leavesBut_set (startTrip_leaves s p)

/-- A position to be driven: its trip pulse begins (R99). -/
theorem tripRequest_begins {s : State} {p : Pos} (h : drivesTrip s.pos[p]) (c : TripCause) (v : Option Nat) (g : Grp)
    (parent : Option (BitVec 16)) : tripBegun s (s.tripRequest p c v g parent) p c parent := by
  have hleaves := tripRequest_leaves s p c v g parent
  rw [tripRequest_drives c v g parent h] at hleaves ⊢
  obtain ⟨last, hlast⟩ := startTrip_self (not_tripPulse_of_drives h)
  have hself : ((s.startTrip p).tripStarted p c v g parent).pos[p]
      = { (s.startTrip p).pos[p] with tripLocked := (s.startTrip p).pos[p].tripLocked || c != .overlap } := by
    rw [tripStarted_eq, tripDoneAtOnce_self, setActive_pos, storeRecord_pos]
  rw [hlast] at hself
  have hactive : ((s.startTrip p).tripStarted p c v g parent).router.active[p]
      = some ⟨c, [], c == .bfBackup, ((s.startTrip p).storeRecord p c v g parent).1, some s.set.pos[p].bfTime, parent⟩ := by
    rw [tripStarted_eq, tripDoneAtOnce_router, setActive_router, startTrip_set]
    simp
  have hhands : .tripEngine p c ∈ ((s.startTrip p).tripStarted p c v g parent).inbox := by
    rw [tripStarted_eq]
    exact tripDoneAtOnce_hands ..
  unfold tripBegun
  rw [hself]
  exact ⟨rfl, rfl, rfl, rfl, rfl, rfl, rfl, rfl, rfl, rfl, ⟨_, hactive⟩, hleaves.active, hleaves.pos, hhands, hleaves.frame⟩

/-- A position at rest that shows an open breaker is OPEN and locked at once (R100). -/
theorem tripRequest_done {s : State} {p : Pos} (h : tripsAtOnce s.pos[p]) {c : TripCause} (hc : c ≠ .overlap) (v : Option Nat)
    (g : Grp) (parent : Option (BitVec 16)) :
    (s.tripRequest p c v g parent).pos[p].state = .opened ∧ (s.tripRequest p c v g parent).pos[p].tripLocked = true := by
  have hstate : (s.tripAtOnce p).pos[p].state = .opened := by
    unfold State.tripAtOnce
    rw [(recordOutcome_all ..).1, pos_set_self]
    exact setPosState_state ..
  rw [tripRequest_atOnce c v g parent h, tripDoneAtOnce_self]
  exact ⟨hstate, by simp [hc]⟩

theorem tripPlain_begins {s : State} {p : Pos} {c : TripCause} {parent : Option (BitVec 16)} (h : drivesTrip s.pos[p]) :
    tripBegun s (s.tripPlain p c parent) p c parent := tripRequest_begins h c none _ parent

theorem tripPlain_done {s : State} {p : Pos} {c : TripCause} {parent : Option (BitVec 16)} (h : tripsAtOnce s.pos[p])
    (hc : c ≠ .overlap) : (s.tripPlain p c parent).pos[p].state = .opened ∧ (s.tripPlain p c parent).pos[p].tripLocked = true :=
  tripRequest_done h hc none _ parent

theorem tripPlain_stopPending (s : State) (p : Pos) (c : TripCause) (parent : Option (BitVec 16)) :
    (s.tripPlain p c parent).router.stopPending = s.router.stopPending := (tripRequest_leaves ..).stopPending

/-! ### The stop-pending set (R97, R98, R110) -/

/-- A change of state of a stop-pending position is handed to the router with the state it leaves. -/
theorem setPosState_hands {s : State} {p : Pos} {st : PosState} (h : s.pos[p].state ≠ st) (hp : p ∈ s.router.stopPending)
    (k : ChangeKind) : .posRouter p s.pos[p].state ∈ (s.setPosState p st k).inbox := by
  rw [(setPosState_change h k).2.2.1, posEvents, if_pos hp]
  simp

theorem handle_posRouter (s : State) (p : Pos) (was : PosState) : s.handle (.posRouter p was) = s.stopPendingChange p was := rfl

theorem commandedPulse_iff {st : PosState} : st.commandedPulse = true ↔ st = .closePulse ∨ st = .openPulse := by
  cases st <;> decide

/-! ### An assertion of the STOP line (R109) -/

/-- What the stop does at other positions of the mask leaves of one position: its record, its active trip, its place in the stop-pending
set, and the settings. -/
structure StopKeeps (p : Pos) (u s : State) : Prop where
  pos : u.pos[p] = s.pos[p]
  active : u.router.active[p] = s.router.active[p]
  stopPending : p ∈ s.router.stopPending → p ∈ u.router.stopPending
  set : u.set = s.set

theorem stopKeeps_trans {p : Pos} {u t s : State} (hu : StopKeeps p u t) (ht : StopKeeps p t s) : StopKeeps p u s :=
  ⟨hu.pos.trans ht.pos, hu.active.trans ht.active, hu.stopPending ∘ ht.stopPending, hu.set.trans ht.set⟩

theorem stopKeeps_of_leaves {p q : Pos} (h : p ≠ q) {u s : State} (hu : LeavesBut q u s) : StopKeeps p u s :=
  ⟨hu.pos p h, hu.active p h, fun hp => by rwa [hu.stopPending], leavesBut_set hu⟩

theorem stopLater_keeps (s : State) (p q : Pos) : StopKeeps p (s.stopLater q) s := by
  unfold State.stopLater
  split
  · exact ⟨rfl, rfl, id, rfl⟩
  · exact ⟨rfl, rfl, List.mem_append_left _, rfl⟩

theorem mem_stopLater (s : State) (p : Pos) : p ∈ (s.stopLater p).router.stopPending := by
  unfold State.stopLater
  split
  · assumption
  · exact List.mem_append_right _ (List.mem_singleton_self p)

theorem stopOne_pulse {s : State} {p : Pos} (h : s.pos[p].state.commandedPulse = true) : s.stopOne p = s.stopLater p := if_pos h

theorem stopOne_rest {s : State} {p : Pos} (h : s.pos[p].state.commandedPulse = false) : s.stopOne p = s.tripPlain p .stop none :=
  if_neg (by rw [h]; decide)

theorem stopOne_keeps (s : State) {p q : Pos} (h : p ≠ q) : StopKeeps p (s.stopOne q) s := by
  cases hq : s.pos[q].state.commandedPulse with
  | true =>
    rw [stopOne_pulse hq]
    exact stopLater_keeps s p q
  | false =>
    rw [stopOne_rest hq]
    exact stopKeeps_of_leaves h (tripRequest_leaves ..)

theorem stopAll_keeps {ps : List Pos} {p : Pos} (h : p ∉ ps) (s : State) : StopKeeps p (ps.foldl State.stopOne s) s := by
  induction ps generalizing s with
  | nil => exact ⟨rfl, rfl, id, rfl⟩
  | cons q ps ih =>
    obtain ⟨hq, hps⟩ := not_or.1 (mt List.mem_cons.2 h)
    exact stopKeeps_trans (ih hps _) (stopOne_keeps s hq)

/-- A stop acts once on each position of its mask, as it finds the position in the state before the stop. -/
theorem stopAll_acts {ps : List Pos} (hnodup : ps.Nodup) {p : Pos} (h : p ∈ ps) (s : State) :
    ∃ w, StopKeeps p w s ∧ StopKeeps p (ps.foldl State.stopOne s) (w.stopOne p) := by
  induction ps generalizing s with
  | nil => cases h
  | cons q ps ih =>
    obtain ⟨hq, hps⟩ := List.nodup_cons.1 hnodup
    by_cases hpq : p = q
    · subst hpq
      exact ⟨s, ⟨rfl, rfl, id, rfl⟩, stopAll_keeps hq _⟩
    · obtain ⟨w, hw, hall⟩ := ih hps ((List.mem_cons.1 h).resolve_left hpq) (s.stopOne q)
      exact ⟨w, stopKeeps_trans hw (stopOne_keeps s hpq), hall⟩

/-- A free order takes choices and nothing else. -/
theorem choose_frame (s : State) (k : Nat) :
    ({ (s.choose k).2 with choices := s.choices, choiceCount := s.choiceCount } : State) = s := by
  unfold State.choose
  (repeat' split) <;> rfl

theorem permute_frame {α : Type} (n : Nat) (xs : List α) (s : State) :
    ({ (State.permute n xs s).2 with choices := s.choices, choiceCount := s.choiceCount } : State) = s := by
  induction n generalizing xs s with
  | zero => rfl
  | succ n ih =>
    have hpick := choose_frame s xs.length
    unfold State.permute
    dsimp only
    split
    · exact hpick
    · rename_i x _
      exact (congrArg (fun t : State => ({ t with choices := s.choices, choiceCount := s.choiceCount } : State))
        (ih (xs.eraseIdx (s.choose xs.length).1) (s.choose xs.length).2) :).trans hpick

theorem anyOrder_keeps {α : Type} (s : State) (xs : List α) (p : Pos) : StopKeeps p (s.anyOrder xs).2 s := by
  have h := permute_frame xs.length xs s
  have hrouter : (s.anyOrder xs).2.router = s.router := (congrArg State.router h :)
  exact ⟨by rw [show (s.anyOrder xs).2.pos = s.pos from (congrArg State.pos h :)], by rw [hrouter], by rw [hrouter]; exact id,
    (congrArg State.set h :)⟩

theorem enterHold_keeps (s : State) (c : HoldCause) (p : Pos) : StopKeeps p (s.enterHold c) s := by
  unfold State.enterHold
  (repeat' split) <;> exact ⟨rfl, rfl, id, rfl⟩

/-- The cause STOP replaces any other hold cause (R198). -/
theorem enterHold_stop (s : State) : (s.enterHold .stop).modes.mode = .hold ∧ (s.enterHold .stop).modes.cause = .stop := by
  unfold State.enterHold
  split
  case isTrue hhold =>
    split
    case isTrue => exact ⟨hhold, rfl⟩
    case isFalse hsame => exact ⟨hhold, by simpa using hsame⟩
  case isFalse => exact ⟨rfl, rfl⟩

theorem stopMask_nodup (s : State) : s.stopMask.Nodup := List.Pairwise.filter _ (show allPos.Nodup by decide)

theorem mem_stopMask {s : State} {p : Pos} (hfit : s.pos[p].state ≠ .unfitted) (hstop : s.set.pos[p].stopTrip = true) :
    p ∈ s.stopMask :=
  List.mem_filter.2 ⟨Permits.mem_allPos p, Bool.and_eq_true_iff.2 ⟨bne_iff_ne.2 hfit, hstop⟩⟩

/-- The stop at one position of its mask: what it does there stands at the end of the stop. -/
theorem doStop_acts {s : State} {p : Pos} (hp : p ∈ s.stopMask) :
    ∃ w, StopKeeps p w s ∧ StopKeeps p s.doStop (w.stopOne p) := by
  have horder := anyOrder_perm s s.stopMask
  obtain ⟨w, hw, hall⟩ := stopAll_acts (horder.nodup_iff.2 (stopMask_nodup s)) (horder.mem_iff.2 hp) (s.anyOrder s.stopMask).2
  exact ⟨w, stopKeeps_trans hw (anyOrder_keeps ..), stopKeeps_trans (enterHold_keeps ..) hall⟩

section
variable {s : State} {p : Pos} (hp : p ∈ s.stopMask)
include hp

theorem doStop_pulse (h : s.pos[p].state = .closePulse ∨ s.pos[p].state = .openPulse) :
    p ∈ s.doStop.router.stopPending ∧ s.doStop.pos[p] = s.pos[p] := by
  obtain ⟨w, hw, hstop⟩ := doStop_acts hp
  rw [stopOne_pulse (by rw [hw.pos]; exact commandedPulse_iff.2 h)] at hstop
  exact ⟨hstop.stopPending (mem_stopLater w p), hstop.pos.trans ((stopLater_keeps w p p).pos.trans hw.pos)⟩

theorem doStop_closed (h : s.pos[p].state = .closed) :
    s.doStop.pos[p].state = .tripPulse
      ∧ ∃ n, s.doStop.router.active[p] = some ⟨.stop, [], false, n, some s.set.pos[p].bfTime, none⟩ := by
  obtain ⟨w, hw, hstop⟩ := doStop_acts hp
  have hclosed : w.pos[p].state = .closed := by rw [hw.pos, h]
  rw [stopOne_rest (by rw [hclosed]; rfl)] at hstop
  obtain ⟨hstate, -, -, -, -, -, -, -, -, -, ⟨n, hactive⟩, -⟩ := tripPlain_begins (c := .stop) (parent := none) (.inl hclosed)
  rw [hw.set] at hactive
  exact ⟨by rw [hstop.pos]; exact hstate, n, hstop.active.trans hactive⟩

theorem doStop_opened (h : s.pos[p].state = .opened) (hf : s.pos[p].feedback = .opened) :
    s.doStop.pos[p].state = .opened ∧ s.doStop.pos[p].tripLocked = true := by
  obtain ⟨w, hw, hstop⟩ := doStop_acts hp
  have hopen : w.pos[p].state = .opened := by rw [hw.pos, h]
  rw [stopOne_rest (by rw [hopen]; rfl)] at hstop
  rw [hstop.pos]
  exact tripPlain_done ⟨.inl hopen, by rw [hw.pos, hf]⟩ (by decide)

end

theorem doStop_base (s : State) : s.doStop.base = s.base := congrArg Prod.fst (doStop_fixed s)

theorem stopAsserted_new {s : State} (hphase : s.base.phase = .running) (hline : s.base.stopLine = false) :
    s.stopAsserted = State.doStop { s with base := { s.base with stopLine := true } } := if_pos ⟨hphase, hline⟩

/-! ### The upstream-trip lines (R107) and the statement -/

theorem upstreamExpiry_uta {s : State} (h : s.router.uta = some 0) :
    s.upstreamExpiry .uta = { s with router := { s.router with uta := none } } := if_pos (by rw [h]; rfl)

theorem upstreamExpiry_utb {s : State} (h : s.router.utb = some 0) :
    s.upstreamExpiry .utb = { s with router := { s.router with utb := none } } := if_pos (by rw [h]; rfl)

theorem exec_upstreamLineTimerExpiry (l : Upstream) (s : State) :
    exec (.upstreamLineTimerExpiry l) s = .next (s.upstreamExpiry l).finish := rfl

theorem exec_stopAsserted (s : State) : exec .stopAsserted s = .next s.stopAsserted.finish := rfl

/-- Settles O23: the lines by their timers, the stop by what it does once at each position of its mask, and the stop-pending set by the trip
request taken when a position leaves its pulse. -/
theorem stopAndUpstreamLines : Obligations.StopAndUpstreamLines := by
  unfold Obligations.StopAndUpstreamLines
  refine ⟨fun s h => ?uta, fun s h => ?utb, fun s => rfl, fun s hphase hline => ?asserted,
    fun s p st k hne hp => setPosState_hands hne hp k, fun s p was => ⟨fun hp hwas => ?leaves, fun h => ?other⟩⟩
  case uta => rw [exec_upstreamLineTimerExpiry, upstreamExpiry_uta h]
  case utb => rw [exec_upstreamLineTimerExpiry, upstreamExpiry_utb h]
  case asserted =>
    have hact {p : Pos} (hp : p ∈ State.stopMask { s with base := { s.base with stopLine := true } }) :=
      And.intro (doStop_pulse hp) (And.intro (doStop_closed hp) (doStop_opened hp))
    refine ⟨State.doStop { s with base := { s.base with stopLine := true } }, ?_, doStop_base _, (enterHold_stop _).1,
      (enterHold_stop _).2, fun p hfit hstop => hact (mem_stopMask hfit hstop)⟩
    rw [exec_stopAsserted, stopAsserted_new hphase hline]
  case leaves =>
    rw [handle_posRouter, stopPendingChange_leaves hp hwas]
    exact ⟨rfl, tripPlain_stopPending .., fun h => tripPlain_begins h,
      fun hrest hopen => tripPlain_done ⟨hrest, hopen⟩ (by decide)⟩
  case other => rw [handle_posRouter, stopPendingChange_other h]

end Sys2Proof.Machine.Tripping

/-! SUPPORT. The statements of Section 7: the source monitors, the plan store, and the scenarios with automatic transfer. First the rules of
each operation of the monitors, the store, the engine and the scenario logic, then each statement from them. -/

namespace Sys2Proof.Machine.Transfer

/-! ### The round class (R118) -/

/-- The frequency tolerance reaches as far below the nominal frequency as above it. -/
theorem freqOk_iff {t : Settings} {x : Nat} : t.freqOk x = true ↔ t.nominal ≤ x + t.freqTol ∧ x ≤ t.nominal + t.freqTol := by
  simp [Settings.freqOk]

/-- A voltage entry is in the health band when its voltage lies within the limits and its frequency, which must be given, within the
tolerance. -/
theorem inBand_voltage_iff {t : Settings} {u : Nat} {f : Option Nat} :
    t.inBand (.voltage u f) = true ↔ t.lowerVolt ≤ u ∧ u ≤ t.upperVolt
      ∧ ∃ x, f = some x ∧ t.nominal ≤ x + t.freqTol ∧ x ≤ t.nominal + t.freqTol := by
  cases f with
  | none => simp [Settings.inBand]
  | some x => simp [Settings.inBand, freqOk_iff, and_assoc]

section
variable {s : State} {m : Source} {c : ChanRec} (hentry : s.meas.chans[monitorChan m] = c)
include hentry

theorem roundClass_voltage {u : Nat} {f : Option Nat} {st : Stamp} (hstatus : c.status = .present)
    (hlast : c.last = some (.voltage u f, st)) :
    s.roundClass m = if s.set.inBand (.voltage u f) = true then .inBand else if 850 ≤ u then .liveOut else .deadRound := by
  subst hentry
  simp only [State.roundClass, hstatus, hlast, Values.volt]

theorem roundClass_noValue (h : c.status = .absent ∨ c.status = .notYetSeen) :
    s.roundClass m = .noValue := by
  subst hentry
  rcases h with h | h <;> simp only [State.roundClass, h]

theorem roundClass_lost (h : c.status = .measLost) : s.roundClass m = .lostRound := by
  subst hentry
  simp only [State.roundClass, h]

/-- The three classes of a voltage entry exclude each other. -/
theorem roundClass_voltage_iff {u : Nat} {f : Option Nat} {st : Stamp} (hstatus : c.status = .present)
    (hlast : c.last = some (.voltage u f, st)) :
    let band := s.set.lowerVolt ≤ u ∧ u ≤ s.set.upperVolt
      ∧ ∃ x, f = some x ∧ s.set.nominal ≤ x + s.set.freqTol ∧ x ≤ s.set.nominal + s.set.freqTol
    (s.roundClass m = .inBand ↔ band) ∧ (s.roundClass m = .liveOut ↔ 850 ≤ u ∧ ¬ band)
      ∧ (s.roundClass m = .deadRound ↔ u < 850 ∧ ¬ band) := by
  intro band
  have hband : s.set.inBand (.voltage u f) = true ↔ band := inBand_voltage_iff
  rw [roundClass_voltage hentry hstatus hlast]
  by_cases hin : band
  · rw [if_pos (hband.2 hin)]
    simp [hin]
  · rw [if_neg (mt hband.1 hin)]
    by_cases hlive : 850 ≤ u
    · simp [hin, hlive]
    · simp [hin, hlive, Nat.lt_of_not_le hlive]

end

/-- Settles O33, by the three kinds of entry a channel can have, and the tolerance under the two nominal frequencies. -/
theorem roundClassOfAnEntry : Obligations.RoundClassOfAnEntry := by
  unfold Obligations.RoundClassOfAnEntry
  refine ⟨fun s m => ?_, fun x => ⟨?_, ?_⟩⟩
  · intro c
    have hentry : s.meas.chans[monitorChan m] = c := by cases m <;> rfl
    exact ⟨fun u f st => roundClass_voltage_iff hentry, roundClass_noValue hentry, roundClass_lost hentry⟩
  · rw [freqOk_iff]
    simp only [Settings.builtIn]
    omega
  · rw [freqOk_iff]
    simp only [Settings.builtIn]
    omega

/-! ### One monitor's record (R117, R119, R123) -/

theorem sources_get_put_self (t : Sources) (m : Source) (r : MonRec) : (t.put m r).get m = r := by cases m <;> rfl

theorem sources_get_put_other {m x : Source} (h : x ≠ m) (t : Sources) (r : MonRec) : (t.put m r).get x = t.get x := by
  cases m <;> cases x <;> simp [Sources.put, Sources.get] at h ⊢

theorem setMonitor_src (s : State) (m : Source) (r : MonRec) : (s.setMonitor m r).src = s.src.put m r := by
  unfold State.setMonitor
  dsimp only
  split <;> rfl

theorem setMonitor_pos (s : State) (m : Source) (r : MonRec) : (s.setMonitor m r).pos = s.pos := by
  unfold State.setMonitor
  dsimp only
  split <;> rfl

/-- A change of a monitor's state is handed to the engine and to the scenario logic. -/
theorem setMonitor_changes {s : State} {m : Source} {r : MonRec} (h : (s.src.get m).state ≠ r.state) :
    (s.setMonitor m r).inbox = s.inbox ++ [.monitorEngine, .monitorScenarios]
      ∧ { s.setMonitor m r with src := s.src, inbox := s.inbox, link := s.link } = s := by
  rw [State.setMonitor, if_neg h]
  exact ⟨rfl, rfl⟩

/-- The record at the end of a boundary that left `r`: HEALTHY when its proof is complete (R119). -/
def monitorSettled (r : MonRec) : MonRec := if r.state = .unstable ∧ r.proved = true then { state := .healthy } else r

theorem stabilityProved_get (s : State) (m : Source) : (s.stabilityProved m).src.get m = monitorSettled (s.src.get m) := by
  unfold State.stabilityProved monitorSettled
  split
  · rw [setMonitor_src, sources_get_put_self]
  · rfl

theorem stabilityProved_other {m x : Source} (h : x ≠ m) (s : State) : (s.stabilityProved m).src.get x = s.src.get x := by
  unfold State.stabilityProved
  split
  · rw [setMonitor_src, sources_get_put_other h]
  · rfl

theorem stabilityProved_pos (s : State) (m : Source) : (s.stabilityProved m).pos = s.pos := by
  unfold State.stabilityProved
  split
  · exact setMonitor_pos ..
  · rfl

/-- A record whose proof is judged at the boundary ends HEALTHY or without the mark of a proof. -/
theorem monitorSettled_prove (r : MonRec) (c : RoundClass) (rounds : Nat) :
    monitorSettled (r.prove c rounds)
      = if r.state = .unstable ∧ c = .inBand ∧ rounds ≤ r.count then { state := .healthy } else { r with proved := false } := by
  by_cases h : r.state = .unstable ∧ c = .inBand ∧ rounds ≤ r.count
  · obtain ⟨hstate, hclass, hcount⟩ := h
    simp [monitorSettled, MonRec.prove, hstate, hclass, hcount]
  · have hproved : (r.state == .unstable && c == .inBand && decide (rounds ≤ r.count)) = false := by
      simpa [and_assoc] using h
    simp [monitorSettled, MonRec.prove, hproved, h]

/-! ### A monitor at a round boundary (R119, R121, R122, Table 7.4) -/

section
variable {s : State} {m : Source} (hjudged : m = .gb → s.feeds.n.gb = true)
include hjudged

/-- A judged monitor takes its transition, then the end of its proof. -/
theorem monitorRound_judged :
    s.monitorRound m = (s.setMonitor m (((s.src.get m).round (s.roundClass m) (s.set.lossDelay.get m)).prove (s.roundClass m)
      (s.returnRounds m))).stabilityProved m := by
  rw [State.monitorRound, if_neg]
  rintro ⟨hgb, hfed⟩
  simp [hjudged hgb] at hfed

theorem monitorRound_get :
    (s.monitorRound m).src.get m
      = monitorSettled (((s.src.get m).round (s.roundClass m) (s.set.lossDelay.get m)).prove (s.roundClass m) (s.returnRounds m)) := by
  rw [monitorRound_judged hjudged, stabilityProved_get, setMonitor_src, sources_get_put_self]

theorem monitorRound_other {x : Source} (hx : x ≠ m) : (s.monitorRound m).src.get x = s.src.get x := by
  rw [monitorRound_judged hjudged, stabilityProved_other hx, setMonitor_src, sources_get_put_other hx]

theorem monitorRound_pos : (s.monitorRound m).pos = s.pos := by
  rw [monitorRound_judged hjudged, stabilityProved_pos, setMonitor_pos]

end

/-! ### The loss timer and the end of the proof as rows (R119, R120, R123) -/

theorem exec_lossTimerExpiry (m : Source) (s : State) : exec (.lossTimerExpiry m) s = .next (s.lossExpiry m).finish := rfl

theorem exec_stabilityProved (m : Source) (s : State) : exec (.stabilityProved m) s = .next (s.stabilityProved m).finish := rfl

section
variable {s : State} {m : Source}

theorem lossExpiry_due (hstate : (s.src.get m).state = .failing) (hloss : (s.src.get m).loss = .running 0) :
    s.lossExpiry m = s.setMonitor m { state := .lost } := by
  rw [State.lossExpiry, if_pos]
  rw [hloss, hstate]
  rfl

theorem stabilityProved_marked (hstate : (s.src.get m).state = .unstable) (hproved : (s.src.get m).proved = true) :
    s.stabilityProved m = s.setMonitor m { state := .healthy } := if_pos ⟨hstate, hproved⟩

theorem stabilityProved_unmarked (h : (s.src.get m).proved = false) : s.stabilityProved m = s := by
  rw [State.stabilityProved, if_neg]
  simp [h]

end

/-- Settles O34: the boundary by the transition and the end of the proof, and the two rows by a change of the monitor's state. -/
theorem monitorTransitions : Obligations.MonitorTransitions := by
  unfold Obligations.MonitorTransitions
  refine ⟨fun s m hjudged => ?boundary, fun s m => ⟨fun hstate hloss => ?lost, fun hstate hproved => ?healthy, fun h => ?unmarked⟩⟩
  case boundary =>
    intro r cls next
    have hnext : next = r.round cls (s.set.lossDelay.get m) := by
      clear_value cls r
      obtain ⟨state, count, loss, proved⟩ := r
      cases state with
      | failing => cases cls <;> cases loss <;> rfl
      | _ => cases cls <;> rfl
    refine ⟨?_, fun x hx => monitorRound_other hjudged hx, monitorRound_pos hjudged⟩
    rw [monitorRound_get hjudged, monitorSettled_prove, hnext]
    rfl
  case lost =>
    obtain ⟨hinbox, hrest⟩ := setMonitor_changes (r := { state := .lost }) (show (s.src.get m).state ≠ .lost by rw [hstate]; decide)
    exact ⟨_, by rw [exec_lossTimerExpiry, lossExpiry_due hstate hloss], setMonitor_src .., hinbox, hrest⟩
  case healthy =>
    obtain ⟨hinbox, hrest⟩ := setMonitor_changes (r := { state := .healthy })
      (show (s.src.get m).state ≠ .healthy by rw [hstate]; decide)
    exact ⟨_, by rw [exec_stabilityProved, stabilityProved_marked hstate hproved], setMonitor_src .., hinbox, hrest⟩
  case unmarked => rw [exec_stabilityProved, stabilityProved_unmarked h]

/-! ### Cells counted from a place (R127) -/

theorem cell_succ (i : CellIx) (k : Nat) : i + Fin.ofNat 16 (k + 1) = i + 1 + Fin.ofNat 16 k := by
  apply Fin.ext
  simp only [Fin.val_add, Fin.val_ofNat, Fin.val_one]
  omega

/-- Counting on from a cell comes back to it after sixteen cells only. -/
theorem cell_succ_ne {i : CellIx} {k : Nat} (hk : k < 15) : i + 1 + Fin.ofNat 16 k ≠ i := by
  intro h
  have hval := congrArg Fin.val h
  simp only [Fin.val_add, Fin.val_ofNat, Fin.val_one] at hval
  omega

theorem plan_cell_zero (pl : Plan) (i : CellIx) : pl[i + Fin.ofNat 16 0] = pl[i] := by simp

theorem plan_cell_succ (pl : Plan) (i : CellIx) (k : Nat) : pl[i + Fin.ofNat 16 (k + 1)] = pl[i + 1 + Fin.ofNat 16 k] := by
  simp only [cell_succ]

theorem plan_set_self (pl : Plan) (i : CellIx) (x : Option Step) : (pl.set i x)[i] = x := by simp

theorem plan_set_other {i j : CellIx} (h : j ≠ i) (pl : Plan) (x : Option Step) : (pl.set i x)[j] = pl[j] := by
  simp [Fin.val_ne_of_ne h.symm]

/-! ### Steps written into cells (R128) -/

/-- The first `n` of the steps go into the empty cells from `i` on, and the cell behind them stops the write unless no step is left. -/
theorem writeCells_spec : ∀ (steps : List Step) (pl : Plan) (i : CellIx) (c n : Nat), steps.length < 16 → n ≤ steps.length →
    (∀ k : Nat, k < n → pl[i + Fin.ofNat 16 k] = none) → (n < steps.length → pl[i + Fin.ofNat 16 n] ≠ none) →
    ∃ pl' : Plan, writeCells pl i steps c = (pl', c + n, if n = steps.length then none else some (i + Fin.ofNat 16 n))
      ∧ (∀ k : Nat, k < n → pl'[i + Fin.ofNat 16 k] = steps[k]?)
      ∧ ∀ j : CellIx, (∀ k : Nat, k < n → j ≠ i + Fin.ofNat 16 k) → pl'[j] = pl[j]
  | [], pl, i, c, n, _, hn, _, _ => by
    obtain rfl : n = 0 := Nat.le_zero.1 hn
    exact ⟨pl, rfl, fun k hk => absurd hk (Nat.not_lt_zero k), fun _ _ => rfl⟩
  | x :: rest, pl, i, c, 0, _, _, _, hstop => by
    have hfull : pl[i].isSome = true :=
      Option.isSome_iff_ne_none.2 (plan_cell_zero pl i ▸ hstop (Nat.succ_pos _))
    refine ⟨pl, ?_, fun k hk => absurd hk (Nat.not_lt_zero k), fun _ _ => rfl⟩
    rw [writeCells, if_pos hfull]
    simp
  | x :: rest, pl, i, c, n + 1, hlen, hn, hempty, hstop => by
    simp only [List.length_cons] at hlen hn hstop
    have hfree : pl[i] = none := plan_cell_zero pl i ▸ hempty 0 (Nat.succ_pos n)
    have hkept {k : Nat} (hk : k ≤ n) : (pl.set i (some x))[i + 1 + Fin.ofNat 16 k] = pl[i + Fin.ofNat 16 (k + 1)] := by
      rw [plan_cell_succ, plan_set_other (cell_succ_ne (by omega))]
    obtain ⟨pl', hwrite, hwritten, hother⟩ := writeCells_spec rest (pl.set i (some x)) (i + 1) (c + 1) n (by omega) (by omega)
      (fun k hk => (hkept (Nat.le_of_lt hk)).trans (hempty (k + 1) (Nat.succ_lt_succ hk)))
      (fun hlt => (hkept (Nat.le_refl n)).symm ▸ hstop (Nat.succ_lt_succ hlt))
    refine ⟨pl', ?_, fun k hk => ?_, fun j hj => ?_⟩
    · rw [writeCells, if_neg (by simp [hfree]), hwrite, cell_succ, Nat.add_right_comm, Nat.add_assoc]
      simp only [List.length_cons, Nat.add_right_cancel_iff]
    · cases k with
      | zero =>
        rw [plan_cell_zero, hother i fun k hk => (cell_succ_ne (by omega)).symm, plan_set_self]
        rfl
      | succ k => rw [plan_cell_succ, hwritten k (Nat.lt_of_succ_lt_succ hk), List.getElem?_cons_succ]
    · have hji : j ≠ i := by simpa using hj 0 (Nat.succ_pos n)
      rw [hother j fun k hk => cell_succ i k ▸ hj (k + 1) (Nat.succ_lt_succ hk), plan_set_other hji]

/-! ### PLAN_WRITE and PLAN_CLEAR (R128, R129) -/

theorem planSteps_valid {raw : List RawStep} {steps : List Step} (hmin : 1 ≤ raw.length) (hmax : raw.length ≤ 3)
    (h : raw.mapM stepOf = some steps) : planSteps raw = some steps := by
  rw [planSteps, if_pos ⟨hmin, hmax⟩, h]

theorem mapM_some_length {α β : Type} {f : α → Option β} {xs : List α} {ys : List β} (h : xs.mapM f = some ys) :
    ys.length = xs.length := by
  induction xs generalizing ys with
  | nil => cases h; rfl
  | cons x xs ih =>
    simp only [List.mapM_cons, Option.bind_eq_bind, Option.bind_eq_some_iff, Option.pure_def, Option.some.injEq] at h
    obtain ⟨y, -, zs, hzs, rfl⟩ := h
    rw [List.length_cons, List.length_cons, ih hzs]

theorem exec_planWrite {s u : State} {q : Req} {m : MasterIx} (h : s.hears q m) {slot start : Nat} {raw : List RawStep} {a : Answer}
    (ha : (s.notePort q).planWrite m slot start raw = (a, u)) : exec (.planWrite q slot start raw) s = .next (u.answered q 21 a) :=
  serve_eq h 21 (fun m s => s.planWrite m slot start raw) ha

theorem exec_planClear {s u : State} {q : Req} {m : MasterIx} (h : s.hears q m) {slot : Nat} {a : Answer}
    (ha : (s.notePort q).planClear m slot = (a, u)) : exec (.planClear q slot) s = .next (u.answered q 22 a) :=
  serve_eq h 22 (fun m s => s.planClear m slot) ha

theorem stationOrMaint_of_role {r : Role} (h : r = .stationA ∨ r = .stationB ∨ r = .maint) : r.stationOrMaint = true := by
  rcases h with rfl | rfl | rfl <;> rfl

section
variable {s : State} {slot : SlotIx}

theorem planBusy_other (h : ∀ r, s.eng.run = some r → r.slot ≠ slot) : s.planBusy slot = false := by
  unfold State.planBusy
  split
  case h_1 r heq => simpa using h r heq
  case h_2 => rfl

variable {m : MasterIx} (hrole : (s.roleOf m).stationOrMaint = true) (hguard : s.base.guard < 2) (hbusy : s.planBusy slot = false)
include hrole hguard hbusy

section
variable {start : CellIx} {raw : List RawStep} {steps : List Step} (hsteps : planSteps raw = some steps) {pl : Plan} {n : Nat}
include hsteps

/-- Past its checks, PLAN_WRITE answers with the count of its steps when all of them were written. -/
theorem planWrite_done (hwrite : writeCells s.set.plans[slot] start steps 0 = (pl, n, none)) :
    s.planWrite m slot.val start.val raw = ({ code := .done, data := byte1 n }, s.setPlan slot pl) := by
  simp only [State.planWrite, hrole, Permits.finOf_val, hsteps, Nat.not_le.2 hguard, hbusy, hwrite, Bool.not_true, Bool.false_eq_true,
    if_false]

/-- A cell that is not EMPTY stops the write and is named in its answer, behind the count written. -/
theorem planWrite_stopped {i : CellIx} (hwrite : writeCells s.set.plans[slot] start steps 0 = (pl, n, some i)) :
    s.planWrite m slot.val start.val raw
      = ({ code := .notEmpty, data := byte1 n ++ byte1 i.val }, s.setPlan slot pl) := by
  simp only [State.planWrite, hrole, Permits.finOf_val, hsteps, Nat.not_le.2 hguard, hbusy, hwrite, Bool.not_true, Bool.false_eq_true,
    if_false]

end

theorem planClear_taken : s.planClear m slot.val = ({ code := .done }, s.setPlan slot (Vector.replicate 16 none)) := by
  simp only [State.planClear, hrole, Permits.finOf_val, Nat.not_le.2 hguard, hbusy, Bool.not_true, Bool.false_eq_true, if_false]

end

/-- Settles O36: both requests past their checks, and the cells of a write by the steps written one after the other. -/
theorem planStoreWrites : Obligations.PlanStoreWrites := by
  unfold Obligations.PlanStoreWrites
  intro s q m slot start hears hrole hguard hfree
  have hrole' : ((s.notePort q).roleOf m).stationOrMaint = true := by
    rw [notePort_roleOf]
    exact stationOrMaint_of_role hrole
  have hguard' : (s.notePort q).base.guard < 2 := by rwa [notePort_base]
  have hbusy : (s.notePort q).planBusy slot = false := planBusy_other (by rwa [notePort_eng])
  refine ⟨fun raw steps hmin hmax hvalid n hn hempty hstop => ?write, exec_planClear hears (planClear_taken hrole' hguard' hbusy)⟩
  case write =>
    have hlen : steps.length = raw.length := mapM_some_length hvalid
    obtain ⟨pl, hwrite, hwritten, hother⟩ := writeCells_spec steps s.set.plans[slot] start 0 n (by omega) hn hempty hstop
    rw [← notePort_set s q, Nat.zero_add] at hwrite
    have hsteps := planSteps_valid hmin hmax hvalid
    refine ⟨pl, ?_, hwritten, hother⟩
    by_cases hall : n = steps.length
    · rw [if_pos hall] at hwrite ⊢
      exact exec_planWrite hears (planWrite_done hrole' hguard' hbusy hsteps hwrite)
    · rw [if_neg hall] at hwrite ⊢
      exact exec_planWrite hears (planWrite_stopped hrole' hguard' hbusy hsteps hwrite)

/-! ### What the supervisor and the synchronizer leave of the sources -/

@[simp] theorem setPosState_src (s : State) (p : Pos) (st : PosState) (k : ChangeKind) : (s.setPosState p st k).src = s.src := by
  unfold State.setPosState
  split <;> rfl

@[simp] theorem closeRequest_src (s : State) (p : Pos) (o : Origin) (req : Option MasterIx) : (s.closeRequest p o req).2.src = s.src := by
  unfold State.closeRequest
  split
  case h_1 =>
    split
    · rfl
    · exact setPosState_src ..
  all_goals rfl

@[simp] theorem openRequest_src (s : State) (p : Pos) (o : Origin) (req : Option MasterIx) : (s.openRequest p o req).2.src = s.src := by
  unfold State.openRequest
  split
  case h_1 =>
    split
    · rfl
    · exact setPosState_src ..
  all_goals rfl

@[simp] theorem tellLedger_src (s : State) (e : SyncEntry) (oc : Option SyncOutcome) : (s.tellLedger e oc).src = s.src := by
  unfold State.tellLedger
  split <;> rfl

@[simp] theorem tellOutcome_src (s : State) (e : SyncEntry) (oc : SyncOutcome) (tellEngine : Bool) :
    (s.tellOutcome e oc tellEngine).src = s.src := by
  unfold State.tellOutcome
  (repeat' split) <;> rfl

@[simp] theorem syncEnd_src (s : State) (e : SyncEntry) (oc : SyncOutcome) (d : Option SyncDetail) (tellEngine : Bool) :
    (s.syncEnd e oc d tellEngine).src = s.src := tellOutcome_src ..

@[simp] theorem endAttempt_src (s : State) (oc : SyncOutcome) (d : Option SyncDetail) (tellEngine : Bool) :
    (s.endAttempt oc d tellEngine).src = s.src := by
  unfold State.endAttempt
  split
  · rfl
  · exact syncEnd_src ..

@[simp] theorem triggerOnce_src (s : State) (e : SyncEntry) : (s.triggerOnce e).2.src = s.src := by
  have hclose := closeRequest_src s e.pos .sync none
  unfold State.triggerOnce
  split
  · exact endAttempt_src ..
  · split
    · exact endAttempt_src ..
    · generalize s.closeRequest e.pos .sync none = answer at hclose ⊢
      obtain ⟨started | atOnce | refused, s1⟩ := answer <;> simpa using hclose

@[simp] theorem grantEntry_src (s : State) (e : SyncEntry) : (s.grantEntry e).src = s.src := by
  unfold State.grantEntry
  dsimp only
  (repeat' split) <;> simp

@[simp] theorem grantLoop_src (n : Nat) (s : State) : (State.grantLoop n s).src = s.src := by
  induction n generalizing s with
  | zero => rfl
  | succ n ih =>
    unfold State.grantLoop
    split
    · split
      · rfl
      · rw [ih, grantEntry_src]
    · rfl

@[simp] theorem regrant_src (s : State) : s.regrant.src = s.src := by
  unfold State.regrant
  split
  · exact grantLoop_src ..
  · rfl

@[simp] theorem syncJoin_src (s : State) (e : SyncEntry) : (s.syncJoin e).2.src = s.src := by
  unfold State.syncJoin
  (repeat' split) <;> simp

@[simp] theorem withdraw_src (s : State) (p : Pos) (tellEngine : Bool) : (s.withdraw p tellEngine).src = s.src := by
  unfold State.withdraw
  split
  · exact syncEnd_src ..
  · (repeat' split) <;> simp

/-! ### What the engine leaves of the sources -/

@[simp] theorem issueOpen_src (s : State) (p : Pos) : (s.issueOpen p).2.src = s.src := by
  have hopen := openRequest_src s p .engine none
  unfold State.issueOpen
  generalize s.openRequest p .engine none = answer at hopen ⊢
  obtain ⟨started | atOnce | refused, s1⟩ := answer <;> exact hopen

@[simp] theorem issueClose_src (s : State) (p : Pos) : (s.issueClose p).2.src = s.src := by
  have hclose := closeRequest_src s p .engine none
  unfold State.issueClose
  split
  · rfl
  · split
    · rfl
    · split
      · rfl
      · generalize s.closeRequest p .engine none = answer at hclose ⊢
        obtain ⟨started | atOnce | refused, s1⟩ := answer <;> exact hclose

@[simp] theorem issueSync_src (s : State) (p : Pos) : (s.issueSync p).2.src = s.src := by
  have hjoin : ((s.setPhase .issued).syncJoin ⟨p, .engine, none, .auto⟩).2.src = s.src := syncJoin_src ..
  unfold State.issueSync
  split
  · rfl
  · split
    · rfl
    · split
      · rfl
      · generalize (s.setPhase .issued).syncJoin ⟨p, .engine, none, .auto⟩ = answer at hjoin ⊢
        obtain ⟨_ | refused, s1⟩ := answer
        · exact hjoin
        · rfl

theorem testIssue_src (s : State) (p : Pos) (isClose : Bool) {issue : State → StepResult × State}
    (h : ∀ s, (issue s).2.src = s.src) : (s.testIssue p isClose issue).2.src = s.src := by
  unfold State.testIssue
  split
  · rfl
  · dsimp only
    split
    · rfl
    · rw [h, updEng_src]

@[simp] theorem testStep_src (s : State) : s.testStep.2.src = s.src := by
  unfold State.testStep
  split
  case h_1 => exact testIssue_src _ _ _ fun s => issueOpen_src s _
  case h_2 => exact testIssue_src _ _ _ fun s => issueClose_src s _
  case h_3 => exact testIssue_src _ _ _ fun s => issueSync_src s _
  case h_4 => rfl

@[simp] theorem beginWait_src (s : State) (st : Step) (time : Nat) (poll : Timer) : (s.beginWait st time poll).2.src = s.src := by
  unfold State.beginWait State.judgeWait
  split <;> rfl

@[simp] theorem noteStep_src (s : State) : s.noteStep.src = s.src := by
  unfold State.noteStep
  split <;> rfl

@[simp] theorem beginStep_src (s : State) : s.beginStep.2.src = s.src := by
  unfold State.beginStep
  dsimp only
  split <;> simp [State.setPhase]

@[simp] theorem withdrawMaster_src (s : State) (p : Pos) : (s.withdrawMaster p).src = s.src := by
  unfold State.withdrawMaster
  split
  · exact withdraw_src ..
  · rfl

theorem foldl_src {α : Type} {f : State → α → State} (h : ∀ s x, (f s x).src = s.src) (xs : List α) (s : State) :
    (xs.foldl f s).src = s.src := by
  induction xs generalizing s with
  | nil => rfl
  | cons x xs ih => rw [List.foldl_cons, ih, h]

@[simp] theorem startMade_src (s : State) (slot : SlotIx) (cause : StartCause) : (s.startMade slot cause).src = s.src :=
  foldl_src withdrawMaster_src (posMembers (Plan.posSet s.set.plans[slot])) s

theorem authorityOnly_src {s t : State} (h : Permits.AuthorityOnly t s) : t.src = s.src := by rw [← h]

theorem tryStart_src {s t : State} {slot : SlotIx} {cause : StartCause} (h : s.tryStart slot cause = .ok t) : t.src = s.src := by
  unfold State.tryStart at h
  obtain ⟨-, hnone⟩ | ⟨-, hheld⟩ := Permits.engineStartPermits_cases s (Plan.posSet s.set.plans[slot])
  · simp only [hnone] at h
    (repeat' split at h) <;> cases h
  · simp only [hheld] at h
    (repeat' split at h) <;> cases h
    rw [startMade_src, authorityOnly_src (Permits.engineHeld_authorityOnly ..)]

@[simp] theorem notStarted_src (s : State) (c : Scenario) (why : NotStarted) : (s.notStarted c why).src = s.src := rfl

@[simp] theorem setPending_src (s : State) (c : Scenario) : (s.setPending c).src = s.src := rfl

@[simp] theorem withdrawOwn_src (s : State) : s.withdrawOwn.src = s.src := by
  unfold State.withdrawOwn
  (repeat' split) <;> simp

@[simp] theorem engineRelease_src (s : State) : s.engineRelease.src = s.src := by
  refine (authorityOnly_src (Permits.scan_authorityOnly _)).trans (foldl_src (fun s p => ?_) allPos s)
  split <;> rfl

@[simp] theorem planEnds_src (s : State) (oc : PlanOutcome) : (s.planEnds oc).src = s.src := by
  simp [State.planEnds]

@[simp] theorem retest_src (s : State) : s.retest.2.src = s.src := by
  unfold State.retest
  split
  · rfl
  · dsimp only
    split
    · simp
    · split
      case h_1 heq => simpa using tryStart_src heq
      case h_2 => simp

@[simp] theorem afterPlan_src (s : State) : s.afterPlan.2.src = s.src := by
  unfold State.afterPlan
  dsimp only
  split <;> simp

@[simp] theorem follow_src (s : State) (r : StepResult) : (s.follow r).2.src = s.src := by
  cases r <;> simp [State.follow, State.advance]

@[simp] theorem engLoop_src (n : Nat) (r : StepResult) (s : State) : (State.engLoop n r s).src = s.src := by
  induction n generalizing r s with
  | zero => rfl
  | succ n ih =>
    unfold State.engLoop
    split
    · rfl
    · rw [ih, follow_src]

@[simp] theorem engBegin_src (s : State) : s.engBegin.src = s.src := by
  simp [State.engBegin, State.engGo]

/-- A scenario handed to the engine leaves the monitors, the flags and the enabling. -/
theorem takeScenario_src (s : State) (c : Scenario) (slot : SlotIx) : (s.takeScenario c slot).src = s.src := by
  unfold State.takeScenario
  split
  · split
    case h_1 heq => rw [engBegin_src, tryStart_src heq]
    case h_2 => rfl
  · split
    · simp
    · split <;> simp

/-! ### The conditions (R124, Table 7.7) -/

theorem gone_iff {x : MonState} : x.gone = true ↔ x = .lost ∨ x = .dead := by cases x <;> decide

theorem stands_iff {s : State} {c : Scenario} {slot : SlotIx} :
    s.stands c = some slot
      ↔ s.condition c = true ∧ s.src.auto = true ∧ s.modes.mode = .run ∧ s.set.scenarios.get c = some slot := by
  simp [State.stands, and_assoc]

theorem stands_not_run {s : State} (h : s.modes.mode ≠ .run) (c : Scenario) : s.stands c = none := by
  rw [State.stands, if_neg]
  simp [h]

theorem conditions_get (s : State) (c : Scenario) : s.conditions.get c = s.condition c := by cases c <;> rfl

/-! ### A judgement event (R124, R125) -/

/-- What a hand-over reads of the state besides the condition flags. -/
def handReads (s : State) : Bool × Mode × ScenarioMap := (s.src.auto, s.modes.mode, s.set.scenarios)

/-- No hand-over changes what the next one reads. -/
theorem takeScenario_handReads (s : State) (c : Scenario) (slot : SlotIx) : handReads (s.takeScenario c slot) = handReads s := by
  have houter := takeScenario_outer s c slot
  simp only [State.outer, Prod.mk.injEq] at houter
  obtain ⟨-, -, -, hset, -, hmodes⟩ := houter
  rw [handReads, takeScenario_src, hset, hmodes]
  rfl

/-- A scenario that stands by the state at the event is handed over, and another is not. -/
theorem handScenario_reads {s v : State} (h : handReads v = handReads s) (c : Scenario) :
    State.handScenario s.conditions v c = ((s.stands c).map fun slot => v.takeScenario c slot).getD v := by
  simp only [handReads, Prod.mk.injEq] at h
  obtain ⟨hauto, hmode, hmap⟩ := h
  rw [State.handScenario, State.stands, conditions_get, hauto, hmode, hmap]
  split
  · cases s.set.scenarios.get c <;> rfl
  · rfl

/-- The scenarios of a list that stand, each with its slot. -/
def standing (s : State) (cs : List Scenario) : List (Scenario × SlotIx) :=
  cs.filterMap fun c => (s.stands c).map fun slot => (c, slot)

theorem handed_eq_standing (s : State) (cs : List Scenario) : ∀ v : State, handReads v = handReads s →
    cs.foldl (State.handScenario s.conditions) v = (standing s cs).foldl (fun v x => v.takeScenario x.1 x.2) v := by
  induction cs with
  | nil => exact fun _ _ => rfl
  | cons c cs ih =>
    intro v hv
    rw [List.foldl_cons, handScenario_reads hv]
    cases hslot : s.stands c with
    | none => simpa [standing, hslot] using ih v hv
    | some slot => simpa [standing, hslot] using ih _ ((takeScenario_handReads v c slot).trans hv)

/-- A judgement event sets the flags and hands over the triggered scenarios that stand (R125). -/
theorem judgeScenarios_standing (s : State) (every : Bool) :
    s.judgeScenarios every
      = (standing s (scenarioOrder.filter fun c => s.condition c && (every || !s.src.flags.get c))).foldl
          (fun v x => v.takeScenario x.1 x.2) { s with src := { s.src with flags := s.conditions } } := by
  simp only [State.judgeScenarios, conditions_get]
  exact handed_eq_standing s _ _ rfl

/-- Outside RUN a judgement event sets the flags alone. -/
theorem judgeScenarios_not_run {s : State} (h : s.modes.mode ≠ .run) (every : Bool) :
    s.judgeScenarios every = { s with src := { s.src with flags := s.conditions } } := by
  have hnone (cs : List Scenario) : standing s cs = [] := by simp [standing, stands_not_run h]
  rw [judgeScenarios_standing, hnone]
  rfl

/-! ### What the engine records of a scenario (R135) -/

/-- The state differs from another in the transfer engine and the notices at most. -/
abbrev EngineOnly (t s : State) : Prop := { t with eng := s.eng, link := s.link } = s

theorem engineOnly_trans {s t u : State} (hu : EngineOnly u t) (ht : EngineOnly t s) : EngineOnly u s :=
  calc ({ u with eng := s.eng, link := s.link } : State)
    _ = { ({ u with eng := t.eng, link := t.link } : State) with eng := s.eng, link := s.link } := rfl
    _ = s := by rw [hu, ht]

theorem setPending_engineOnly (s : State) (c : Scenario) : EngineOnly (s.setPending c) s := rfl

theorem notStarted_engineOnly (s : State) (c : Scenario) (why : NotStarted) : EngineOnly (s.notStarted c why) s := rfl

/-! ### A scenario handed over (R134, R135) -/

section
variable {s : State} {c old : Scenario} {slot : SlotIx}

theorem takeScenario_waits (hstate : s.eng.state ≠ .idle) (hpending : s.eng.pendingSc = none) :
    s.takeScenario c slot = s.setPending c := by
  simp only [State.takeScenario, if_neg hstate, hpending]

/-- Of two scenarios that must wait the more urgent holds the pending slot, and the other is recorded OUTRANKED. -/
theorem takeScenario_ranks (hstate : s.eng.state ≠ .idle) (hpending : s.eng.pendingSc = some old) :
    (s.takeScenario c slot).eng
        = (if c.urgency < old.urgency then { s.eng with pendingSc := some c, lastNot := some (old, .outranked) }
            else { s.eng with lastNot := some (c, .outranked) })
      ∧ EngineOnly (s.takeScenario c slot) s := by
  have htaken : s.takeScenario c slot
      = if c.urgency < old.urgency then (s.setPending c).notStarted old .outranked else s.notStarted c .outranked := by
    simp only [State.takeScenario, if_neg hstate, hpending]
  rw [htaken]
  by_cases hrank : c.urgency < old.urgency
  · rw [if_pos hrank, if_pos hrank]
    exact ⟨rfl, engineOnly_trans (notStarted_engineOnly ..) (setPending_engineOnly ..)⟩
  · rw [if_neg hrank, if_neg hrank]
    exact ⟨rfl, notStarted_engineOnly ..⟩

theorem takeScenario_refused (hstate : s.eng.state = .idle) {r : Result} (h : s.tryStart slot (.scenario c) = .error r) :
    s.takeScenario c slot = s.notStarted c (startRefusal r) := by
  simp only [State.takeScenario, if_pos hstate, h]

theorem takeScenario_starts (hstate : s.eng.state = .idle) {v : State} (h : s.tryStart slot (.scenario c) = .ok v) :
    s.takeScenario c slot = v.engBegin := by
  simp only [State.takeScenario, if_pos hstate, h]

/-- A start with a scenario as its cause, where the checks of R134 pass. -/
theorem tryStart_scenario (hmode : s.modes.mode = .run) (hstate : s.eng.state = .idle) (hplan : Plan.runnable s.set.plans[slot] = true)
    (hfree : ¬ ∃ p ∈ posMembers (Plan.posSet s.set.plans[slot]), ∃ h, s.auth.permits[p] = some (.maintenance h)) (c : Scenario) :
    ∃ v : State, s.tryStart slot (.scenario c) = .ok v ∧ scenarioStarted s v c slot := by
  have hmade := Permits.tryStart_made hmode hstate hplan (.scenario c) fun p hp h heq => hfree ⟨p, hp, h, heq⟩
  obtain ⟨heng, hpermits, houter⟩ := Permits.startMade_engineHeld s slot (.scenario c)
  simp only [State.outer, Prod.mk.injEq] at houter
  obtain ⟨hbase, -, hpending, hset, -, hmodes⟩ := houter
  exact ⟨_, hmade, heng, hpermits, hbase, hset, hmodes, hpending⟩

end

/-! ### The pending scenario tested again (R136) -/

/-- The state with the pending slot emptied, as the re-test judges it. -/
def slotEmptied (s : State) : State := (s.updEng fun e => { e with pendingSc := none }).raise .engine

theorem slotEmptied_engineOnly (s : State) : EngineOnly (slotEmptied s) s := rfl

theorem slotEmptied_stands (s : State) (c : Scenario) : (slotEmptied s).stands c = s.stands c := by cases c <;> rfl

theorem retest_none {s : State} (h : s.eng.pendingSc = none) : s.retest = (false, s) := by
  simp only [State.retest, h]

section
variable {s : State} {c : Scenario} (hpending : s.eng.pendingSc = some c)
include hpending

theorem retest_falls (h : s.stands c = none) : s.retest = (false, (slotEmptied s).notStarted c .noLongerStands) := by
  rw [← slotEmptied_stands, slotEmptied] at h
  simp only [State.retest, hpending, h, slotEmptied]

variable {slot : SlotIx} (hstands : s.stands c = some slot)
include hstands

theorem retest_refused {r : Result} (h : (slotEmptied s).tryStart slot (.scenario c) = .error r) :
    s.retest = (false, (slotEmptied s).notStarted c (startRefusal r)) := by
  rw [← slotEmptied_stands, slotEmptied] at hstands
  rw [slotEmptied] at h
  simp only [State.retest, hpending, hstands, h, slotEmptied]

theorem retest_starts {v : State} (h : (slotEmptied s).tryStart slot (.scenario c) = .ok v) : s.retest = (true, v) := by
  rw [← slotEmptied_stands, slotEmptied] at hstands
  rw [slotEmptied] at h
  simp only [State.retest, hpending, hstands, h]

end

/-! ### AUTO_TRANSFER (R126) and the statement -/

theorem exec_autoTransfer {s u : State} {q : Req} {m : MasterIx} (h : s.hears q m) {enable : Nat} {a : Answer}
    (ha : (s.notePort q).autoTransfer m enable = (a, u)) : exec (.autoTransfer q enable) s = .next (u.answered q 20 a) :=
  serve_eq h 20 (fun m s => s.autoTransfer m enable) ha

theorem flagOf_code (on : Bool) : flagOf (if on then 1 else 0) = some on := by cases on <;> rfl

theorem station_of_role {r : Role} (h : r = .stationA ∨ r = .stationB) : r.station = true := by
  rcases h with rfl | rfl <;> rfl

/-- The enabling of automatic transfer set, with its notice. -/
def autoSet (s : State) (on : Bool) : State := State.raise { s with src := { s.src with auto := on } } .engine

/-- Setting it touches the enabling and the link, the port of the request with it. -/
theorem autoSet_rest (s : State) (q : Req) (on : Bool) : { autoSet (s.notePort q) on with src := s.src, link := s.link } = s := by
  obtain ⟨l, h⟩ := notePort_link s q
  rw [h]
  rfl

theorem autoSet_src (s : State) (q : Req) (on : Bool) : (autoSet (s.notePort q) on).src = { s.src with auto := on } := by
  simp [autoSet]

theorem autoSet_eng (s : State) (q : Req) (on : Bool) : (autoSet (s.notePort q) on).eng = s.eng := by simp [autoSet]

theorem autoSet_modes (s : State) (q : Req) (on : Bool) : (autoSet (s.notePort q) on).modes = s.modes := by simp [autoSet]

theorem autoSet_conditions (s : State) (q : Req) (on : Bool) : (autoSet (s.notePort q) on).conditions = s.conditions := by
  obtain ⟨l, h⟩ := notePort_link s q
  rw [h]
  rfl

section
variable {s : State} {m : MasterIx} (hrole : (s.roleOf m).station = true) {on : Bool}
include hrole

theorem autoTransfer_same (h : s.src.auto = on) : s.autoTransfer m (if on then 1 else 0) = ({ code := .done }, s) := by
  simp only [State.autoTransfer, hrole, flagOf_code, h]
  rfl

theorem autoTransfer_changes (h : s.src.auto = !on) :
    s.autoTransfer m (if on then 1 else 0)
      = ({ code := .done }, if on then (autoSet s on).judgeScenarios true else autoSet s on) := by
  have hne : on ≠ s.src.auto := by cases on <;> simp [h]
  simp only [State.autoTransfer, hrole, flagOf_code, if_neg hne]
  rfl

end

/-- The conditions of Table 7.7 and what stands, clause by clause. -/
theorem conditions_stated (s : State) :
    let gone := fun m : Source => (s.src.get m).state = .lost ∨ (s.src.get m).state = .dead
    let feeds := fun m : Source => s.feeds.a.has m = true ∨ s.feeds.b.has m = true
    (s.condition .lossBoth = true ↔ gone .ua ∧ gone .ub ∧ (s.feeds.a.gb = false ∨ s.feeds.b.gb = false))
      ∧ (s.condition .lossA = true ↔ gone .ua ∧ feeds .ua) ∧ (s.condition .lossB = true ↔ gone .ub ∧ feeds .ub)
      ∧ (s.condition .returnA = true ↔ (s.src.get .ua).state = .healthy ∧ ¬ feeds .ua)
      ∧ (s.condition .returnB = true ↔ (s.src.get .ub).state = .healthy ∧ ¬ feeds .ub) := by
  simp [State.condition, gone_iff, Sources.get, SourceSet.has, and_assoc]

/-- Settles O35: the conditions, the judgement event by what stands at it, the hand-over and the re-test by the start each attempts, and
AUTO_TRANSFER by the change of the enabling. -/
theorem scenariosAndAutoTransfer : Obligations.ScenariosAndAutoTransfer := by
  unfold Obligations.ScenariosAndAutoTransfer
  refine ⟨fun s => ?conditions, fun s every => judgeScenarios_standing s every, fun s c slot hmode => ?handed,
    fun s c hstate hpending => ?retested, fun s h => retest_none h, fun s q m on hears hrole => ?autoTransfer⟩
  case conditions =>
    obtain ⟨hlossBoth, hlossA, hlossB, hreturnA, hreturnB⟩ := conditions_stated s
    exact ⟨hlossBoth, hlossA, hlossB, hreturnA, hreturnB, fun c slot => stands_iff⟩
  case handed =>
    intro e u plan maint
    refine ⟨fun hstate hpending => ?waits, fun old hstate hpending => ?ranks, fun hstate hplan => ?incomplete,
      fun hstate hplan hmaint => ?maint, fun hstate hplan hfree => ?starts⟩
    case waits =>
      rw [show u = _ from takeScenario_waits hstate hpending]
      exact ⟨rfl, setPending_engineOnly ..⟩
    case ranks => exact takeScenario_ranks hstate hpending
    case incomplete =>
      rw [show u = _ from takeScenario_refused hstate (Permits.tryStart_incomplete hmode hstate hplan _)]
      exact ⟨rfl, notStarted_engineOnly ..⟩
    case maint =>
      rw [show u = _ from takeScenario_refused hstate (Permits.tryStart_maint hmode hstate hplan _ hmaint)]
      exact ⟨rfl, notStarted_engineOnly ..⟩
    case starts =>
      obtain ⟨v, hv, hstarted⟩ := tryStart_scenario hmode hstate hplan hfree c
      exact ⟨v, takeScenario_starts hstate hv, hstarted⟩
  case retested =>
    intro e r
    refine ⟨fun hfalls => ?falls, fun slot hstands => ?stands⟩
    case falls =>
      rw [show r = _ from retest_falls hpending hfalls]
      exact ⟨rfl, rfl, engineOnly_trans (notStarted_engineOnly ..) (slotEmptied_engineOnly s)⟩
    case stands =>
      intro plan maint
      obtain ⟨-, -, hmode, -⟩ := stands_iff.1 hstands
      refine ⟨fun hplan => ?incomplete, fun hplan hmaint => ?maint, fun hplan hfree => ?starts⟩
      case incomplete =>
        have hrefused : (slotEmptied s).tryStart slot (.scenario c) = .error .incomplete :=
          Permits.tryStart_incomplete (s := slotEmptied s) hmode hstate hplan _
        rw [show r = _ from retest_refused hpending hstands hrefused]
        exact ⟨rfl, rfl⟩
      case maint =>
        have hrefused : (slotEmptied s).tryStart slot (.scenario c) = .error .maint :=
          Permits.tryStart_maint (s := slotEmptied s) hmode hstate hplan _ hmaint
        rw [show r = _ from retest_refused hpending hstands hrefused]
        exact ⟨rfl, rfl⟩
      case starts =>
        obtain ⟨v, hv, hstarted⟩ := tryStart_scenario (s := slotEmptied s) hmode hstate hplan hfree c
        rw [show r = _ from retest_starts hpending hstands hv]
        exact ⟨rfl, hstarted⟩
  case autoTransfer =>
    intro cmd
    have hstation : ((s.notePort q).roleOf m).station = true := by
      rw [notePort_roleOf]
      exact station_of_role hrole
    refine ⟨fun h => exec_autoTransfer hears (autoTransfer_same hstation (by rwa [notePort_src])), fun h => ?changes⟩
    case changes =>
      refine ⟨autoSet (s.notePort q) on, autoSet_src s q on, autoSet_rest s q on,
        exec_autoTransfer hears (autoTransfer_changes hstation (by rwa [notePort_src])), fun hmode => ?_⟩
      have hjudged := judgeScenarios_not_run (s := autoSet (s.notePort q) on) (by rwa [autoSet_modes]) true
      rw [autoSet_conditions] at hjudged
      exact ⟨congrArg (·.src) hjudged, (congrArg (·.eng) hjudged).trans (autoSet_eng s q on)⟩

end Sys2Proof.Machine.Transfer

/-! SUPPORT. The statements of Section 8: a plan suspended, resumed and abandoned, and the timers and steps of the engine. First what ends a
plan and what follows a step, then how a step is tested and begun, then the statements from these rules. -/

namespace Sys2Proof.Machine.PlanRuns

/-! ### What the supervisor and the synchronizer leave of the engine -/

theorem authorityAndEngine_eng {s t : State} (h : Permits.authorityAndEngine t = Permits.authorityAndEngine s) : t.eng = s.eng :=
  congrArg Prod.snd h

theorem reportTo_authorityAndEngine (s : State) (p : Pos) (oc : PulseOutcome) (closing : Bool) (o : Option Origin) :
    Permits.authorityAndEngine (s.reportTo p oc closing o) = Permits.authorityAndEngine s := by
  cases o <;> rfl

theorem takeFitting_authorityAndEngine (s : State) (p : Pos) :
    Permits.authorityAndEngine (s.takeFitting p) = Permits.authorityAndEngine s := by
  unfold State.takeFitting
  split
  · rfl
  · split
    · rfl
    · split
      · exact Permits.setPosState_authorityAndEngine ..
      · exact Permits.setPosState_authorityAndEngine ..

theorem endPulse_authorityAndEngine (s : State) (p : Pos) (st : PosState) (oc : PulseOutcome) :
    Permits.authorityAndEngine (s.endPulse p st oc) = Permits.authorityAndEngine s :=
  (takeFitting_authorityAndEngine ..).trans
    ((reportTo_authorityAndEngine ..).trans (Permits.setPosState_authorityAndEngine ..))

theorem endOwnDrive_eng (s : State) (p : Pos) : (s.endOwnDrive p).eng = s.eng := by
  unfold State.endOwnDrive State.endDrive
  split
  · split
    · split
      · exact authorityAndEngine_eng (endPulse_authorityAndEngine ..)
      · rfl
    · rfl
  · rfl

theorem withdrawOwn_eng (s : State) : s.withdrawOwn.eng = s.eng := by
  unfold State.withdrawOwn
  split
  · split
    · exact authorityAndEngine_eng (Permits.withdraw_authorityAndEngine ..)
    · rfl
  · rfl

/-! ### The permits of the engine released (R51) -/

/-- A scan grants requesters alone, so it leaves no position under ENGINE that was not. -/
theorem scanFrom_not_engine (es : List WaitEntry) (claimed : PosMask) {s : State} {p : Pos} (h : s.auth.permits[p] ≠ some .engine) :
    (State.scanFrom es claimed [] s).2.auth.permits[p] ≠ some .engine := by
  induction es generalizing claimed s with
  | nil => exact h
  | cons e es ih =>
    by_cases hgrant : Permits.mayGrant s claimed e
    · rw [Permits.scanFrom_granted hgrant]
      refine ih _ ?_
      rw [Permits.grantWaiting_permits]
      split
      · cases e.kind <;> simp [State.newPermit]
      · exact h
    · rw [Permits.scanFrom_stays hgrant]
      exact ih _ h

theorem scan_not_engine {s : State} {p : Pos} (h : s.auth.permits[p] ≠ some .engine) : s.scan.auth.permits[p] ≠ some .engine := by
  by_cases hmode : s.modes.mode = .run
  · rw [Permits.scan_run hmode]
    exact scanFrom_not_engine _ _ h
  · rwa [Permits.scan_not_run hmode]

/-- A release frees the positions under ENGINE and then scans the list. -/
theorem engineRelease_eq (s : State) :
    s.engineRelease
      = (Permits.withPermits s
          (Permits.replaced s.auth.permits allPos fun _ v => if v = some .engine then none else v)).scan := by
  refine congrArg State.scan (Permits.foldl_replaced (fun v p => ?_) (by decide))
  rw [Permits.withPermits_permits]
  by_cases h : v[p] = some .engine
  · rw [if_pos h, if_pos h]
    rfl
  · rw [if_neg h, if_neg h]
    refine congrArg (Permits.withPermits s) (Permits.permits_ext fun q => ?_)
    rw [Permits.permits_set]
    split
    case isTrue hq => rw [hq]
    case isFalse => rfl

theorem engineRelease_authorityOnly (s : State) : Permits.AuthorityOnly s.engineRelease s := by
  rw [engineRelease_eq]
  exact Permits.authorityOnly_trans (Permits.scan_authorityOnly _) (Permits.withPermits_authorityOnly ..)

theorem engineRelease_not_engine (s : State) (p : Pos) : s.engineRelease.auth.permits[p] ≠ some .engine := by
  rw [engineRelease_eq]
  refine scan_not_engine ?_
  rw [Permits.withPermits_permits, Permits.replaced_apply, if_pos (Permits.mem_allPos p)]
  split
  case isTrue => exact Option.some_ne_none _ |>.symm
  case isFalse h => exact h

/-! ### The end of a plan (R143) -/

/-- The engine as the end of a plan leaves it: IDLE, with the outcome in the result record. -/
def planEnded (e : Engine) (oc : PlanOutcome) : Engine :=
  { e with
    state := .idle, run := none, stepTimer := .idle, poll := none, marks := {}
    result := e.result.map fun r => { r with outcome := some oc } }

theorem planEnds_eq (s : State) (oc : PlanOutcome) :
    s.planEnds oc = (s.withdrawOwn.updEng fun e => planEnded e oc).engineRelease.raise .engine := rfl

theorem planEnds_eng (s : State) (oc : PlanOutcome) : (s.planEnds oc).eng = planEnded s.eng oc := by
  obtain ⟨hreleased, -⟩ := Permits.authorityOnly_kept (engineRelease_authorityOnly (s.withdrawOwn.updEng fun e => planEnded e oc))
  rw [planEnds_eq, raise_eng, hreleased, updEng_eng, withdrawOwn_eng]

theorem planEnds_not_engine (s : State) (oc : PlanOutcome) (p : Pos) : (s.planEnds oc).auth.permits[p] ≠ some .engine := by
  rw [planEnds_eq, raise_auth]
  exact engineRelease_not_engine _ p

/-- With no scenario pending nothing follows the end of a plan. -/
theorem planEnds_afterPlan {s : State} (h : s.eng.pendingSc = none) (oc : PlanOutcome) :
    (s.planEnds oc).afterPlan = (.waits, s.planEnds oc) := by
  have hpending : (s.planEnds oc).eng.pendingSc = none := by rwa [planEnds_eng]
  rw [State.afterPlan, Transfer.retest_none hpending]
  exact if_neg Bool.false_ne_true

/-! ### What follows the result of a step -/

theorem engGo_eq (s : State) (res : StepResult) : s.engGo res = State.engLoop 64 res s := by rw [State.engGo]

theorem engLoop_succ (n : Nat) (res : StepResult) (s : State) :
    State.engLoop (n + 1) res s = if res = .waits then s else State.engLoop n (s.follow res).1 (s.follow res).2 := by rw [State.engLoop]

theorem engLoop_waits (n : Nat) (s : State) : State.engLoop n .waits s = s := by
  cases n with
  | zero => rfl
  | succ n => exact if_pos rfl

theorem engGo_waits (s : State) : s.engGo .waits = s := engLoop_waits 64 s

/-- A result that leads to a step that waits, or to none, is carried through by it. -/
theorem engGo_follow {s u : State} {res : StepResult} (hres : res ≠ .waits) (h : s.follow res = (.waits, u)) : s.engGo res = u := by
  rw [engGo_eq, engLoop_succ 63, if_neg hres, h, engLoop_waits]

theorem follow_failed (s : State) (why : FailReason) :
    s.follow (.failed why) = (s.planEnds (.failed s.stepIndex why)).afterPlan := by rw [State.follow]

theorem engGo_failed {s : State} (h : s.eng.pendingSc = none) (why : FailReason) :
    s.engGo (.failed why) = s.planEnds (.failed s.stepIndex why) := by
  refine engGo_follow nofun ?_
  rw [follow_failed, planEnds_afterPlan h]

theorem abandon_eq {s : State} (h : s.eng.pendingSc = none) (why : AbandonReason) :
    s.abandon why = s.planEnds (.abandoned why) := by
  simp only [State.abandon, planEnds_afterPlan h, engGo_waits]

/-! ### The step in progress -/

/-- The state with another record in the engine. -/
def withEng (s : State) (e : Engine) : State := { s with eng := e }

theorem withEng_withEng (s : State) (e e' : Engine) : withEng (withEng s e) e' = withEng s e' := rfl

section
variable {s : State} {r : PlanRun} (hrun : s.eng.run = some r)
include hrun

theorem engCell_of_run : s.engCell = s.set.plans[r.slot][r.step] := by rw [State.engCell, hrun]; rfl

theorem stepIndex_of_run : s.stepIndex = r.step := by rw [State.stepIndex, hrun]

theorem setPhase_of_run (ph : StepPhase) :
    s.setPhase ph = withEng s { s.eng with run := some { r with phase := ph } } := by
  rw [State.setPhase, State.updEng, Engine.updRun, hrun]
  rfl

theorem inPlan_of_run (p : Pos) : s.inPlan p = r.set.getLsbD p.val := by rw [State.inPlan, hrun]

theorem waitsToIssue_other (h : r.phase ≠ .waitingToIssue) : s.waitsToIssue = false := by
  rw [State.waitsToIssue, hrun, Bool.and_eq_false_iff]
  exact .inr (beq_eq_false_iff_ne.2 h)

variable (hstate : s.eng.state = .running)
include hstate

theorem waitsToIssue_running (h : r.phase = .waitingToIssue) : s.waitsToIssue = true := by
  simp [State.waitsToIssue, hrun, hstate, h]

theorem waitingStep_running (h : r.phase = .waiting) : s.waitingStep = s.set.plans[r.slot][r.step] := by
  rw [State.waitingStep, hstate, hrun]
  exact (if_pos h).trans (engCell_of_run hrun)

theorem issuedStep_running : s.issuedStep = if r.phase = .issued then s.set.plans[r.slot][r.step] else none := by
  rw [State.issuedStep, hstate, hrun, ← engCell_of_run hrun]

end

theorem issuedStep_not_running {s : State} (h : s.eng.state ≠ .running) : s.issuedStep = none := by
  unfold State.issuedStep
  split
  case h_1 heq _ => exact absurd heq h
  case h_2 => rfl

theorem engCell_withEng {s : State} {e : Engine} {r : PlanRun} (h : e.run = some r) :
    (withEng s e).engCell = s.set.plans[r.slot][r.step] := engCell_of_run (s := withEng s e) h

/-! ### The step that a suspension halts (R144) -/

section
variable {s : State} {r : PlanRun} (hrun : s.eng.run = some r) {p : Pos}
include hrun

/-- A close drive of the step on another position than the tripped one is ended. -/
theorem endOwnDrive_closePos {x : Fin 5} (hcell : s.set.plans[r.slot][r.step] = some (.closePos x)) (hphase : r.phase = .issued)
    (hother : smallPos x ≠ p) : s.endOwnDrive p = s.endDrive (smallPos x) := by
  rw [State.endOwnDrive, hrun, engCell_of_run hrun, hcell]
  exact if_pos ⟨hphase, hother⟩

theorem endOwnDrive_none (h : (∀ x, s.set.plans[r.slot][r.step] ≠ some (.closePos x)) ∨ r.phase ≠ .issued) :
    s.endOwnDrive p = s := by
  rw [State.endOwnDrive, hrun, engCell_of_run hrun]
  split
  case h_1 hr hcell =>
    cases hr
    exact if_neg fun hissued => h.elim (fun hno => hno _ hcell) (fun hno => hno hissued.1)
  case h_2 => rfl

/-- A synchronizer entry of the step is withdrawn. -/
theorem withdrawOwn_closeSync {x : Fin 5} (hcell : s.set.plans[r.slot][r.step] = some (.closeSync x)) (hphase : r.phase = .issued) :
    s.withdrawOwn = s.withdraw (smallPos x) false := by
  rw [State.withdrawOwn, hrun, engCell_of_run hrun, hcell]
  exact if_pos hphase

theorem withdrawOwn_none (h : (∀ x, s.set.plans[r.slot][r.step] ≠ some (.closeSync x)) ∨ r.phase ≠ .issued) :
    s.withdrawOwn = s := by
  rw [State.withdrawOwn, hrun, engCell_of_run hrun]
  split
  case h_1 hr hcell =>
    cases hr
    exact if_neg fun hissued => h.elim (fun hno => hno _ hcell) (fun hno => hno hissued)
  case h_2 => rfl

/-- Halting a step that was not issued, or is no close, touches the supervisor and the synchronizer in nothing. -/
theorem stepHalted_none
    (h : (∀ x, s.set.plans[r.slot][r.step] ≠ some (.closePos x) ∧ s.set.plans[r.slot][r.step] ≠ some (.closeSync x))
      ∨ r.phase ≠ .issued) :
    (s.endOwnDrive p).withdrawOwn = s := by
  rw [endOwnDrive_none hrun (h.imp_left fun hno x => (hno x).1), withdrawOwn_none hrun (h.imp_left fun hno x => (hno x).2)]

theorem stepHalted_closeSync {x : Fin 5} (hcell : s.set.plans[r.slot][r.step] = some (.closeSync x)) (hphase : r.phase = .issued) :
    (s.endOwnDrive p).withdrawOwn = s.withdraw (smallPos x) false := by
  rw [endOwnDrive_none hrun (.inl fun y => by rw [hcell]; nofun), withdrawOwn_closeSync hrun hcell hphase]

theorem stepHalted_closePos {x : Fin 5} (hcell : s.set.plans[r.slot][r.step] = some (.closePos x)) (hphase : r.phase = .issued)
    (hother : smallPos x ≠ p) : (s.endOwnDrive p).withdrawOwn = s.endDrive (smallPos x) := by
  have hended := endOwnDrive_closePos hrun hcell hphase hother
  have hrun' : (s.endDrive (smallPos x)).eng.run = some r := by rw [← hended, endOwnDrive_eng, hrun]
  have houter := endDrive_outer s (smallPos x)
  simp only [State.outer, Prod.mk.injEq] at houter
  obtain ⟨-, -, -, hset, -, -⟩ := houter
  rw [hended, withdrawOwn_none hrun' (.inl fun y => by rw [hset, hcell]; nofun)]

end

/-- The end-drive request ends a close drive of the engine as a close that failed (R8, R10). -/
theorem endDrive_ends {s : State} {q : Pos} (hstate : s.pos[q].state = .closePulse) (horigin : s.pos[q].origin = some .engine)
    (hfitted : s.set.pos[q].fitted = true) :
    let v := s.endDrive q
    v.pos[q].state = .opened ∧ v.pos[q].lastKind = .commanded ∧ v.pos[q].lastOutcome = some (.closeFail, .engine)
      ∧ samePositionsBut q v s := by
  have hover : (s.updPos q PosRec.pulseOver).pos[q].state ≠ .opened := by
    rw [updPos_self]
    change s.pos[q].state ≠ _
    rw [hstate]
    decide
  obtain ⟨hopened, -, -, -⟩ := setPosState_change hover .commanded
  let t := (s.updPos q PosRec.pulseOver).setPosState q .opened .commanded
  let u := t.report q .closeFail (s.pos[q].state == .closePulse) .engine
  have hleaves : Tripping.LeavesBut q u s :=
    Tripping.leavesBut_trans (Tripping.reportTo_leaves t q .closeFail (s.pos[q].state == .closePulse) (some .engine))
      (Tripping.leavesBut_trans (Tripping.setPosState_leaves ..) (Tripping.updPos_leaves ..))
  have hself : u.pos[q] = { t.pos[q] with lastOutcome := some (.closeFail, .engine) } := by
    rw [(report_all ..).1, pos_set_self]
  have hagree : u.set.pos[q].fitted = u.fitted q := by
    rw [Tripping.leavesBut_set hleaves, hfitted, State.fitted, hself, setPosState_state]
    rfl
  have hv : s.endDrive q = u := by
    rw [State.endDrive, if_pos ⟨hstate, horigin⟩, State.closeRunsOut, State.endPulse, horigin]
    exact takeFitting_agree hagree
  rw [hv]
  refine ⟨?_, ?_, ?_, hleaves.pos⟩
  · rw [hself, setPosState_state]
  · rw [hself, hopened, pos_set_self]
  · rw [hself]

/-- A waiting entry leaves the list, and nothing of the target or the positions changes. -/
theorem withdraw_waiting {s : State} {p : Pos} {e : SyncEntry} (h : s.sync.waits.find? (fun w => w.pos == p) = some e) :
    let v := s.withdraw p false
    v.sync.waits = s.sync.waits.filter (· ≠ e) ∧ v.sync.target = s.sync.target ∧ v.sync.state = s.sync.state ∧ v.pos = s.pos := by
  have hv : s.withdraw p false = s.dropWait e false := by rw [State.withdraw, State.waitingFor, h]
  rw [hv]
  unfold State.dropWait State.syncEnd State.tellOutcome
  split <;> exact ⟨rfl, rfl, rfl, rfl⟩

/-- The target leaves an attempt not CLOSING, and with an empty list none follows it. -/
theorem withdraw_target {s : State} {e : SyncEntry} (hwaits : s.sync.waits = []) (htarget : s.sync.target = some e)
    (hstate : s.sync.state ≠ .closing) :
    let v := s.withdraw e.pos false
    v.sync.state = .idle ∧ v.sync.target = none ∧ v.sync.att = {} ∧ v.pos = s.pos := by
  let u := s.endAttempt .cancelled none false
  have hu : u.sync.state = .idle ∧ u.sync.target = none ∧ u.sync.att = {} ∧ u.sync.waits = [] ∧ u.pos = s.pos := by
    simp only [u, State.endAttempt, htarget]
    unfold State.syncEnd State.tellOutcome
    split <;> exact ⟨rfl, rfl, rfl, hwaits, rfl⟩
  obtain ⟨hidle, hnone, hatt, hempty, hpos⟩ := hu
  have hregrant : u.regrant = u := by
    rw [State.regrant, hempty]
    exact ite_self _
  have hv : s.withdraw e.pos false = u := by
    rw [State.withdraw, State.waitingFor, hwaits, List.find?_nil, htarget]
    exact (if_pos ⟨rfl, hstate⟩).trans hregrant
  rw [hv]
  exact ⟨hidle, hnone, hatt, hpos⟩

/-! ### A trip taken by the engine (R144, R145) -/

theorem engineOnly_pos {s t : State} (h : Transfer.EngineOnly t s) : t.pos = s.pos := by rw [← h]

theorem engineOnly_sync {s t : State} (h : Transfer.EngineOnly t s) : t.sync = s.sync := by rw [← h]

/-- The suspending trips list with a trip appended while it has room. -/
def tripNoted (x : ResultRec) (t : Pos × TripCause) : ResultRec :=
  if x.trips.length < 8 then { x with trips := x.trips ++ [t] } else x

/-- The engine as a suspension leaves it. -/
def suspended (e : Engine) (r : PlanRun) : Engine :=
  { e with state := .suspended, run := some { r with phase := .halted }, poll := none, stepTimer := e.stepTimer.freeze }

theorem suspend_engineOnly (s : State) (p : Pos) : Transfer.EngineOnly (s.suspend p) (s.endOwnDrive p).withdrawOwn := by
  unfold State.suspend
  generalize (s.endOwnDrive p).withdrawOwn = t
  rfl

theorem noteTrip_engineOnly (s : State) (t : Pos × TripCause) : Transfer.EngineOnly (s.noteTrip t) s := rfl

theorem noteTrip_eng (s : State) (t : Pos × TripCause) :
    (s.noteTrip t).eng = { s.eng with result := s.eng.result.map fun x => tripNoted x t } := rfl

theorem suspend_eng {s : State} {r : PlanRun} (hrun : s.eng.run = some r) (p : Pos) : (s.suspend p).eng = suspended s.eng r := by
  have hkept : (s.endOwnDrive p).withdrawOwn.eng = s.eng := (withdrawOwn_eng _).trans (endOwnDrive_eng s p)
  rw [State.suspend, raise_eng, setPhase_of_run (r := r) (by rw [updEng_eng, hkept, hrun]), updEng_eng, hkept]
  rfl

theorem engineTrip_outside {s : State} {p : Pos} {c : TripCause} (h : s.inPlan p = false ∨ s.eng.state = .idle) :
    s.engineTrip p c = s := by
  unfold State.engineTrip
  split
  case isTrue => rfl
  case isFalse hin =>
    have hidle : s.eng.state = .idle := h.resolve_left (by simpa using hin)
    rw [hidle]

theorem engineTrip_running {s : State} {p : Pos} {c : TripCause} (hin : s.inPlan p = true) (hstate : s.eng.state = .running) :
    s.engineTrip p c = (s.suspend p).noteTrip (p, c) := by
  rw [State.engineTrip, hin, hstate]
  rfl

theorem engineTrip_suspended {s : State} {p : Pos} {c : TripCause} (hin : s.inPlan p = true) (hstate : s.eng.state = .suspended) :
    s.engineTrip p c = (s.noteTrip (p, c)).raise .engine := by
  rw [State.engineTrip, hin, hstate]
  rfl

/-! ### An outcome taken by the engine (R138, R139, R143, R145) -/

theorem engineOutcome_other {s : State} {p : Pos}
    (h : ∀ x : Fin 5, smallPos x = p → s.issuedStep ≠ some (.openPos x) ∧ s.issuedStep ≠ some (.closePos x)) (oc : PulseOutcome) :
    s.engineOutcome p oc = s := by
  unfold State.engineOutcome
  split
  case h_1 x heq => exact if_pos fun hx => (h x hx).1 heq
  case h_2 x heq => exact if_pos fun hx => (h x hx).2 heq
  case h_3 => rfl

theorem engineOutcome_open {s : State} {x : Fin 5} (h : s.issuedStep = some (.openPos x)) (oc : PulseOutcome) :
    s.engineOutcome (smallPos x) oc = match oc with
      | .openedDone => (s.setMarks (smallPos x)).engGo .complete
      | .openFail => s.engGo (.failed .openFail)
      | .takenByTrip => s.suspend (smallPos x)
      | _ => s := by
  unfold State.engineOutcome
  rw [h]
  exact if_neg (not_not_intro rfl)

theorem engineOutcome_close {s : State} {x : Fin 5} (h : s.issuedStep = some (.closePos x)) (oc : PulseOutcome) :
    s.engineOutcome (smallPos x) oc = match oc with
      | .closedDone => s.engGo .complete
      | .closeFail => s.engGo (.failed .closeFail)
      | .takenByTrip => s.suspend (smallPos x)
      | _ => s := by
  unfold State.engineOutcome
  rw [h]
  exact if_neg (not_not_intro rfl)

/-! ### PLAN_RESUME and PLAN_ABANDON (R146, R147) -/

theorem exec_planResume {s u : State} {q : Req} {m : MasterIx} (h : s.hears q m) {a : Answer}
    (ha : (s.notePort q).planResume m = (a, u)) : exec (.planResume q) s = .next (u.answered q 25 a) :=
  serve_eq h 25 (fun m s => s.planResume m) ha

theorem exec_planAbandon {s u : State} {q : Req} {m : MasterIx} (h : s.hears q m) {a : Answer}
    (ha : (s.notePort q).planAbandon m = (a, u)) : exec (.planAbandon q) s = .next (u.answered q 26 a) :=
  serve_eq h 26 (fun m s => s.planAbandon m) ha

/-- The plan is the requester's that started it, and any STATION role's when a scenario did. -/
theorem ownsPlan_of_cause {s : State} {m : MasterIx} {r : ResultRec} (hresult : s.eng.result = some r)
    (hcause : r.cause = .master m ∨ (∃ c, r.cause = .scenario c) ∧ (s.roleOf m = .stationA ∨ s.roleOf m = .stationB)) :
    s.ownsPlan m = true := by
  obtain ⟨slot, cause, set, step, outcome, trips⟩ := r
  rw [State.ownsPlan, hresult]
  obtain rfl | ⟨⟨c, rfl⟩, hrole⟩ := hcause
  · exact beq_self_eq_true m
  · exact Transfer.station_of_role hrole

/-- The engine set RUNNING, with its notice, as a resumption leaves it before its step begins again. -/
def resumed (s : State) : State := (s.updEng fun e => { e with state := .running }).raise .engine

theorem resumed_engineOnly (s : State) : Transfer.EngineOnly (resumed s) s := rfl

theorem planResume_resumes {s : State} {m : MasterIx} (hmode : s.modes.mode = .run) (hstate : s.eng.state = .suspended)
    (howns : s.ownsPlan m = true) : s.planResume m = ({ code := .done }, (resumed s).engBegin) := by
  rw [State.planResume, if_neg (not_not_intro hmode), if_neg (not_not_intro hstate), howns]
  rfl

section
variable {s : State} {m : MasterIx} (hrole : s.roleOf m = .stationA ∨ s.roleOf m = .stationB ∨ s.roleOf m = .maint)
include hrole

theorem planAbandon_idle (hstate : s.eng.state = .idle) : s.planAbandon m = ({ code := .notFound }, s) := by
  rw [State.planAbandon, Transfer.stationOrMaint_of_role hrole, if_pos hstate]
  rfl

theorem planAbandon_ends (hstate : s.eng.state ≠ .idle) (hpending : s.eng.pendingSc = none) :
    s.planAbandon m = ({ code := .done }, s.planEnds (.abandoned (.request m))) := by
  rw [State.planAbandon, Transfer.stationOrMaint_of_role hrole, if_neg hstate, abandon_eq hpending]
  rfl

end

theorem notePort_engineOnly (s : State) (q : Req) : Transfer.EngineOnly (s.notePort q) s := by
  obtain ⟨l, h⟩ := notePort_link s q
  rw [h]

/-- Settles O38: a trip by the state of the engine and the step it halts, an outcome by the step issued, and the two requests past their
checks. -/
theorem planSuspendResumeAbandon : Obligations.PlanSuspendResumeAbandon := by
  unfold Obligations.PlanSuspendResumeAbandon
  refine ⟨fun s r p c hrun => ?trip, fun s p oc => ?outcome, fun s q m hears => ?requests⟩
  case trip =>
    have hin := inPlan_of_run hrun p
    refine ⟨fun h => engineTrip_outside (h.imp_left fun hbit => hin.trans hbit), fun hbit hstate => ?suspended,
      fun hbit hstate => ?running⟩
    case suspended =>
      rw [engineTrip_suspended (hin.trans hbit) hstate]
      exact ⟨rfl, rfl⟩
    case running =>
      rw [engineTrip_running (hin.trans hbit) hstate]
      have honly : Transfer.EngineOnly ((s.suspend p).noteTrip (p, c)) (s.endOwnDrive p).withdrawOwn :=
        Transfer.engineOnly_trans (noteTrip_engineOnly ..) (suspend_engineOnly ..)
      have hpos : ((s.suspend p).noteTrip (p, c)).pos = (s.endOwnDrive p).withdrawOwn.pos := engineOnly_pos honly
      have hsync : ((s.suspend p).noteTrip (p, c)).sync = (s.endOwnDrive p).withdrawOwn.sync := engineOnly_sync honly
      refine ⟨?eng, fun x hcell hphase hother hpulse horigin hfitted => ?drive, fun x e hcell hphase hwaits => ?waiting,
        fun x e hcell hphase hwaits htarget hx hclosing => ?target, fun hnone => ?rest⟩
      case eng =>
        rw [noteTrip_eng, suspend_eng hrun]
        rfl
      case drive =>
        rw [stepHalted_closePos hrun hcell hphase hother] at hpos
        obtain ⟨hopened, hkind, hlast, hsame⟩ := endDrive_ends hpulse horigin hfitted
        rw [samePositionsBut, hpos]
        exact ⟨hopened, hkind, hlast, hsame⟩
      case waiting =>
        rw [stepHalted_closeSync hrun hcell hphase] at hpos hsync
        obtain ⟨hleft, htarget, hstate, hkept⟩ := withdraw_waiting hwaits
        exact ⟨(congrArg Sync.waits hsync).trans hleft, (congrArg Sync.target hsync).trans htarget,
          (congrArg Sync.state hsync).trans hstate, hpos.trans hkept⟩
      case target =>
        rw [stepHalted_closeSync hrun hcell hphase, ← hx] at hpos hsync
        obtain ⟨hidle, hnone, hatt, hkept⟩ := withdraw_target hwaits htarget hclosing
        exact ⟨(congrArg Sync.state hsync).trans hidle, (congrArg Sync.target hsync).trans hnone,
          (congrArg Sync.att hsync).trans hatt, hpos.trans hkept⟩
      case rest =>
        rw [stepHalted_none hrun hnone] at honly
        exact honly
  case outcome =>
    refine ⟨fun hstate => engineOutcome_other (fun x _ => ?_) oc, fun r hstate hrun => ?running⟩
    · rw [issuedStep_not_running hstate]
      exact ⟨nofun, nofun⟩
    case running =>
      have hissued := issuedStep_running hrun hstate
      refine ⟨fun h => engineOutcome_other (fun x hx => ?_) oc, fun x hx hphase hcell => ?opens, fun x hx hphase hcell => ?closes⟩
      · rw [hissued]
        split
        case isTrue hphase => exact h.resolve_left (not_not_intro hphase) x hx
        case isFalse => exact ⟨nofun, nofun⟩
      case opens =>
        subst hx
        exact engineOutcome_open (by rw [hissued, if_pos hphase, hcell]) oc
      case closes =>
        subst hx
        exact engineOutcome_close (by rw [hissued, if_pos hphase, hcell]) oc
  case requests =>
    refine ⟨fun hmode hstate howner => ?resume, fun hrole => ⟨fun hstate => ?idle, fun hstate hpending => ?abandon⟩⟩
    case resume =>
      obtain ⟨r, hresult, hcause⟩ := howner
      have howns : (s.notePort q).ownsPlan m = true :=
        ownsPlan_of_cause (by rwa [notePort_eng]) (by rwa [notePort_roleOf])
      refine ⟨resumed (s.notePort q), exec_planResume hears (planResume_resumes ?_ ?_ howns), ?_,
        Transfer.engineOnly_trans (resumed_engineOnly _) (notePort_engineOnly s q)⟩
      · rwa [notePort_modes]
      · rwa [notePort_eng]
      · rw [resumed, raise_eng, updEng_eng, notePort_eng]
    case idle =>
      exact exec_planAbandon hears (planAbandon_idle (by rwa [notePort_roleOf]) (by rwa [notePort_eng]))
    case abandon =>
      have hended := planAbandon_ends (s := s.notePort q) (m := m) (by rwa [notePort_roleOf]) (by rwa [notePort_eng])
        (by rwa [notePort_eng])
      have houter := planEnds_outer (s.notePort q) (.abandoned (.request m))
      simp only [State.outer, Prod.mk.injEq, notePort_set, notePort_modes, notePort_pending] at houter
      obtain ⟨-, -, hpend, hset, -, hmodes⟩ := houter
      refine ⟨_, exec_planAbandon hears hended, ?_, planEnds_not_engine _ _, hset, hmodes, hpend⟩
      rw [planEnds_eng, notePort_eng]
      rfl

/-! ### The condition of a waiting step (R142) -/

theorem isEmpty_iff {x : SourceSet} : x.isEmpty = true ↔ ∀ m, x.has m = false := by
  constructor
  · intro h m
    simp only [SourceSet.isEmpty, Bool.and_eq_true, Bool.not_eq_true'] at h
    obtain ⟨⟨hua, hub⟩, hgb⟩ := h
    cases m <;> assumption
  · intro h
    have hua : x.ua = false := h .ua
    have hub : x.ub = false := h .ub
    have hgb : x.gb = false := h .gb
    rw [SourceSet.isEmpty, hua, hub, hgb]
    rfl

theorem volt_eq_some {v : Values} {u : Nat} : v.volt = some u ↔ ∃ f, v = .voltage u f := by
  cases v <;> simp [Values.volt]

/-- A channel gives a voltage exactly when it was PRESENT in the last round with that voltage. -/
theorem voltNow_eq_some {s : State} {c : Chan} {u : Nat} : s.voltNow c = some u ↔ s.gaveVolt c u := by
  rw [State.voltNow, State.entry]
  by_cases h : s.meas.chans[c].status = .present
  · simp only [State.gaveVolt, h, true_and, if_true, Option.bind_map, Option.bind_eq_some_iff, Function.comp_apply, volt_eq_some]
    constructor
    · rintro ⟨⟨v, stamp⟩, hlast, f, rfl⟩
      exact ⟨f, stamp, hlast⟩
    · rintro ⟨f, stamp, hlast⟩
      exact ⟨_, hlast, f, rfl⟩
  · rw [if_neg h]
    exact ⟨nofun, fun hgave => absurd hgave.1 h⟩

/-- The condition a step is judged by is the one R142 gives it. -/
theorem stepMet_iff (s : State) (st : Step) : s.stepMet st = true ↔ awaitedStands s st := by
  cases st with
  | waitDead bus t =>
    have hvolt : (match s.voltNow (busChan bus) with
        | some v => decide (v ≤ 250)
        | none => false) = true ↔ ∃ v, s.gaveVolt (busChan bus) v ∧ v ≤ 250 := by
      simp only [← voltNow_eq_some]
      cases s.voltNow (busChan bus) <;> simp
    rw [State.stepMet, Bool.and_eq_true, isEmpty_iff]
    exact and_congr_right fun _ => hvolt
  | requireGen c t => exact decide_eq_true_iff
  | waitHealthy m t => exact beq_iff_eq
  | _ => exact Bool.false_eq_true.to_iff

/-- No condition rests on the engine. -/
theorem stepMet_eng (s : State) (e : Engine) (st : Step) : (withEng s e).stepMet st = s.stepMet st := by
  cases st <;> rfl

theorem judgeWait_stands {s : State} {st : Step} (h : awaitedStands s st) (e : Engine) :
    (withEng s e).judgeWait st = (.complete, withEng s { e with stepTimer := .idle, poll := none }) :=
  if_pos ((stepMet_eng s e st).trans ((stepMet_iff s st).2 h))

theorem judgeWait_fails {s : State} {st : Step} (h : ¬ awaitedStands s st) (e : Engine) :
    (withEng s e).judgeWait st = (.waits, withEng s e) := by
  refine if_neg fun hmet => h ((stepMet_iff s st).1 ?_)
  rwa [stepMet_eng] at hmet

/-! ### A step that waits for a condition begins (R137) -/

/-- The engine with its current step waiting and its timers as given. -/
def stepWaiting (e : Engine) (r : PlanRun) (timer : HeldTimer) (poll : Timer) : Engine :=
  { e with
    run := some { r with phase := .waiting }, stepTimer := timer, poll := poll
    result := e.result.map fun x => { x with step := r.step } }

section
variable {s : State} {r : PlanRun} (hrun : s.eng.run = some r) {st : Step} (hcell : s.set.plans[r.slot][r.step] = some st)
  {t : Nat} {poll : Timer} (hawaits : st.awaits = some (t, poll))
include hrun hcell hawaits

/-- It begins WAITING with its timers running, and is judged at once. -/
theorem beginStep_awaits :
    s.beginStep = (withEng s (stepWaiting s.eng r (.running t) poll)).judgeWait st := by
  have hnoted : s.noteStep
      = { s with eng := { s.eng with
          stepTimer := .idle, poll := none, result := s.eng.result.map fun x => { x with step := r.step } } } := by
    rw [State.noteStep, hrun]
    rfl
  have hrun' : s.noteStep.eng.run = some r := by rw [hnoted]; exact hrun
  have hcell' : s.noteStep.engCell = some st := by rw [engCell_of_run hrun', hnoted]; exact hcell
  have hbegun : s.beginStep = s.noteStep.beginWait st t poll := by
    unfold State.beginStep
    simp only [hcell']
    cases st <;> cases hawaits <;> rfl
  rw [hbegun, State.beginWait, setPhase_of_run hrun', hnoted]
  rfl

theorem beginStep_stands (h : awaitedStands s st) :
    s.beginStep = (.complete, withEng s (stepWaiting s.eng r .idle none)) := by
  rw [beginStep_awaits hrun hcell hawaits, judgeWait_stands h]
  rfl

theorem beginStep_waits (h : ¬ awaitedStands s st) :
    s.beginStep = (.waits, withEng s (stepWaiting s.eng r (.running t) poll)) := by
  rw [beginStep_awaits hrun hcell hawaits, judgeWait_fails h]

end

/-! ### What follows a step complete, finished or failed (R136, R143) -/

theorem follow_complete {s : State} {r : PlanRun} (hrun : s.eng.run = some r) :
    s.follow .complete = (withEng s { s.eng with run := some { r with step := r.step + 1 } }).beginStep := by
  rw [State.follow, State.advance, State.updEng, Engine.updRun, hrun]
  rfl

theorem follow_finished (s : State) : s.follow .finished = (s.planEnds .completed).afterPlan := by rw [State.follow]

/-- The step after one complete is begun, and the engine waits with it. -/
theorem engGo_complete_waits {s : State} {r : PlanRun} {st : Step} {t : Nat} {poll : Timer} (hrun : s.eng.run = some r)
    (hcell : s.set.plans[r.slot][r.step + 1] = some st) (hawaits : st.awaits = some (t, poll)) (h : ¬ awaitedStands s st) :
    s.engGo .complete = withEng s (stepWaiting s.eng { r with step := r.step + 1 } (.running t) poll) := by
  refine engGo_follow nofun ?_
  rw [follow_complete hrun]
  refine beginStep_waits (s := withEng s { s.eng with run := some { r with step := r.step + 1 } }) rfl hcell hawaits ?_
  rwa [← stepMet_iff, stepMet_eng, stepMet_iff]

/-! ### Whether an OPEN, CLOSE or CLOSE_SYNC step may issue (R137, R141) -/

/-- The engine with its poll timer idle. -/
def pollStopped (e : Engine) : Engine := { e with poll := none }

/-- A drive begun with another record in the engine is begun with this one. -/
theorem begun_of_eng {s v : State} {e : Engine} {p : Pos} {close : Bool} {o : Origin} {req : Option MasterIx}
    (h : pulseBegun (withEng s e) v p close o req) : pulseBegun s (withEng v s.eng) p close o req := by
  obtain ⟨hself, hother, hfeeds, hframe⟩ := h
  exact ⟨hself, hother, hfeeds, congrArg (fun x : State => { x with eng := s.eng }) hframe⟩

theorem begun_eng {s v : State} {p : Pos} {close : Bool} {o : Origin} {req : Option MasterIx} (h : pulseBegun s v p close o req) :
    v.eng = s.eng := by
  obtain ⟨-, -, -, hframe⟩ := h
  rw [← hframe]

/-- The engine with its current step ISSUED. -/
def stepIssued (e : Engine) (r : PlanRun) : Engine := { e with poll := none, run := some { r with phase := .issued } }

/-- A drive begun by the step and the step ISSUED, apart from one another. -/
theorem begun_issued {s v : State} {e : Engine} {r : PlanRun} (hrun : e.run = some r) {p : Pos} {close : Bool}
    (h : pulseBegun (withEng s (pollStopped e)) v p close .engine none) :
    v.setPhase .issued = withEng v (stepIssued e r) := by
  have heng : v.eng = pollStopped e := begun_eng h
  rw [setPhase_of_run (r := r) (by rw [heng, pollStopped, hrun]), heng]
  rfl

section
variable {s : State} {e : Engine} {r : PlanRun} {x : Fin 5}

theorem testIssue_inFlight (h : s.pos[smallPos x].state.inFlight = true) (isClose : Bool) (issue : State → StepResult × State) :
    (withEng s e).testIssue (smallPos x) isClose issue
      = (.waits, withEng s { e with poll := e.poll.or (some 10) }) := if_pos h

theorem testIssue_marked (h : s.pos[smallPos x].state.inFlight = false)
    (hmarks : ∃ side ∈ sideBuses (smallPos x), e.marks.get side ≠ none) (issue : State → StepResult × State) :
    (withEng s e).testIssue (smallPos x) true issue = (.waits, withEng s (pollStopped e)) := by
  obtain ⟨side, hside, hmark⟩ := hmarks
  have hruns : (withEng s (pollStopped e)).markRuns (smallPos x) = true :=
    List.any_eq_true.2 ⟨side, hside, Option.isSome_iff_ne_none.2 hmark⟩
  exact (if_neg (Bool.eq_false_iff.1 h)).trans (if_pos hruns)

theorem testIssue_issues (h : s.pos[smallPos x].state.inFlight = false) {isClose : Bool}
    (hmarks : isClose = false ∨ ∀ side ∈ sideBuses (smallPos x), e.marks.get side = none) (issue : State → StepResult × State) :
    (withEng s e).testIssue (smallPos x) isClose issue = issue (withEng s (pollStopped e)) := by
  have hfree : (isClose && (withEng s (pollStopped e)).markRuns (smallPos x)) = false := by
    obtain rfl | hmarks := hmarks
    · exact Bool.false_and _
    · refine Bool.and_eq_false_iff.2 (.inr (List.any_eq_false.2 fun side hside => Bool.eq_false_iff.1 ?_))
      exact Option.isSome_eq_false_iff.2 (Option.isNone_iff_eq_none.2 (hmarks side hside))
  exact (if_neg (Bool.eq_false_iff.1 h)).trans (if_neg (Bool.eq_false_iff.1 hfree))

variable (hrun : e.run = some r)
include hrun

theorem testStep_open (hcell : s.set.plans[r.slot][r.step] = some (.openPos x)) :
    (withEng s e).testStep
      = (withEng s e).testIssue (smallPos x) false fun s => s.issueOpen (smallPos x) := by
  rw [State.testStep, engCell_withEng hrun, hcell]

theorem testStep_close (hcell : s.set.plans[r.slot][r.step] = some (.closePos x)) :
    (withEng s e).testStep
      = (withEng s e).testIssue (smallPos x) true fun s => s.issueClose (smallPos x) := by
  rw [State.testStep, engCell_withEng hrun, hcell]

theorem testStep_sync (hcell : s.set.plans[r.slot][r.step] = some (.closeSync x)) :
    (withEng s e).testStep
      = (withEng s e).testIssue (smallPos x) true fun s => s.issueSync (smallPos x) := by
  rw [State.testStep, engCell_withEng hrun, hcell]

/-- With a pulse in flight on its position the step is polled again. -/
theorem testStep_inFlight
    (hcell : s.set.plans[r.slot][r.step] = some (.openPos x) ∨ s.set.plans[r.slot][r.step] = some (.closePos x)
      ∨ s.set.plans[r.slot][r.step] = some (.closeSync x)) (h : s.pos[smallPos x].state.inFlight = true) :
    (withEng s e).testStep = (.waits, withEng s { e with poll := e.poll.or (some 10) }) := by
  obtain hcell | hcell | hcell := hcell
  · exact (testStep_open hrun hcell).trans (testIssue_inFlight h ..)
  · exact (testStep_close hrun hcell).trans (testIssue_inFlight h ..)
  · exact (testStep_sync hrun hcell).trans (testIssue_inFlight h ..)

/-- A dead-time mark on a side holds a close back, and its poll timer stops. -/
theorem testStep_marked (hcell : s.set.plans[r.slot][r.step] = some (.closePos x) ∨ s.set.plans[r.slot][r.step] = some (.closeSync x))
    (h : s.pos[smallPos x].state.inFlight = false) (hmarks : ∃ side ∈ sideBuses (smallPos x), e.marks.get side ≠ none) :
    (withEng s e).testStep = (.waits, withEng s (pollStopped e)) := by
  obtain hcell | hcell := hcell
  · exact (testStep_close hrun hcell).trans (testIssue_marked h hmarks _)
  · exact (testStep_sync hrun hcell).trans (testIssue_marked h hmarks _)

end

/-! ### An entry offered to a synchronizer at work (R150, R151) -/

theorem regrant_busy {s : State} (h : s.sync.state ≠ .idle) : s.regrant = s := by
  unfold State.regrant
  split
  · cases s.sync.waits.length with
    | zero => rfl
    | succ n => exact if_neg h
  · rfl

/-- The state with an entry at the end of the list of the synchronizer, with its notice. -/
def syncOffered (s : State) (e : SyncEntry) : State :=
  State.raise { s with sync := { s.sync with waits := s.sync.waits ++ [e] } } .sync

/-- An entry the list has room for, and no other of its position, joins at its end; a synchronizer at work grants nothing then. -/
theorem syncJoin_joins {s : State} {e : SyncEntry} (hmode : s.modes.mode = .run) (hbusy : s.sync.state ≠ .idle)
    (hroom : s.sync.waits.length < 8) (hwaits : ∀ w ∈ s.sync.waits, w.pos ≠ e.pos)
    (htarget : ∀ w, s.sync.target = some w → w.pos ≠ e.pos) (hcls : e.cls ≠ .generator) :
    s.syncJoin e = (none, syncOffered s e) := by
  have hfree : ((s.sync.waits.any fun w => w.pos == e.pos) || (s.sync.target.map (·.pos)) == some e.pos) = false := by
    simpa using And.intro hwaits htarget
  have htold : (syncOffered s e).tellLedger e none = syncOffered s e := if_neg hcls
  have hkept : (syncOffered s e).regrant = syncOffered s e := regrant_busy hbusy
  rw [State.syncJoin, if_neg (not_not_intro hmode), if_neg (Bool.eq_false_iff.1 hfree), if_neg (Nat.not_le.2 hroom)]
  exact congrArg (Prod.mk none) ((congrArg State.regrant htold).trans hkept)

/-! ### A step issues (R138 to R140) -/

theorem maintRefuses_free {s : State} {p : Pos} (h : ∀ m, s.auth.permits[p] ≠ some (.maintenance m)) (o : Origin)
    (req : Option MasterIx) : s.maintRefuses p o req = false := by
  unfold State.maintRefuses
  split
  case h_1 m heq => exact absurd heq (h m)
  case h_2 => rfl

/-- A check past which the first refusal of a list is still none has passed. -/
theorem firstRefusal_none {cs : List (Option Result)} (h : firstRefusal cs = none) {c : Option Result} (hc : c ∈ cs) : c = none :=
  List.findSome?_eq_none_iff.1 h c hc

theorem locks_of_engCloseChecks {s : State} {p : Pos} {paired : Bool} (h : s.engCloseChecks p paired = none) :
    s.pos[p].tripLocked = false ∧ s.pos[p].bf = false := by
  have hflags : s.checkCloseFlags p = none := firstRefusal_none h (.head _)
  have hlocks : s.checkLocks p = none := firstRefusal_none hflags (.head _)
  simpa [State.checkLocks, require] using hlocks

theorem checkPosition_opened {s : State} {p : Pos} (h : s.pos[p].state = .opened) : s.checkPosition p = none := by
  rw [State.checkPosition, h]

section
variable {s : State} {p : Pos}

theorem issueOpen_starts (hclosed : s.pos[p].state = .closed) (hfree : ∀ m, s.auth.permits[p] ≠ some (.maintenance m)) :
    s.issueOpen p = (.waits, (s.startOpen p .engine none).setPhase .issued) := by
  rw [State.issueOpen, openRequest_starts hclosed (maintRefuses_free hfree ..)]

variable (hopened : s.pos[p].state = .opened) (hmode : s.modes.mode = .run)
include hopened hmode

theorem issueClose_starts (hchecks : s.engCloseChecks p false = none) (hfree : ∀ m, s.auth.permits[p] ≠ some (.maintenance m)) :
    s.issueClose p = (.waits, (s.startClose p .engine none).setPhase .issued) := by
  obtain ⟨hlocked, hbf⟩ := locks_of_engCloseChecks hchecks
  have hstarts := closeRequest_starts hopened (closeRefused_none hlocked hbf hmode (maintRefuses_free hfree .engine none))
  simp only [State.issueClose, checkPosition_opened hopened, hopened, hchecks, hstarts, reduceCtorEq, if_false]

/-- The entry of a CLOSE_SYNC step joins the list of a synchronizer at work. -/
theorem issueSync_joins (hchecks : s.engCloseChecks p true = none) (hbusy : s.sync.state ≠ .idle) (hroom : s.sync.waits.length < 8)
    (hwaits : ∀ w ∈ s.sync.waits, w.pos ≠ p) (htarget : ∀ w, s.sync.target = some w → w.pos ≠ p) :
    s.issueSync p = (.waits, syncOffered (s.setPhase .issued) ⟨p, .engine, none, .auto⟩) := by
  have hjoins := syncJoin_joins (s := s.setPhase .issued) (e := ⟨p, .engine, none, .auto⟩) hmode hbusy hroom hwaits htarget nofun
  simp only [State.issueSync, checkPosition_opened hopened, hopened, hchecks, hjoins, reduceCtorEq, if_false]

end

/-! ### The test of a step that may issue (R137 to R140) -/

section
variable {s : State} {e : Engine} {r : PlanRun} (hrun : e.run = some r) {x : Fin 5}
include hrun

/-- An OPEN step opens its position. -/
theorem testStep_opens (hcell : s.set.plans[r.slot][r.step] = some (.openPos x)) (hclosed : s.pos[smallPos x].state = .closed)
    (hfree : ∀ m, s.auth.permits[smallPos x] ≠ some (.maintenance m)) :
    ∃ v : State, pulseBegun s v (smallPos x) false .engine none
      ∧ (withEng s e).testStep = (.waits, withEng v (stepIssued e r)) := by
  have hbegun : pulseBegun (withEng s (pollStopped e))
      ((withEng s (pollStopped e)).startOpen (smallPos x) .engine none) (smallPos x) false .engine none :=
    startOpen_begun (s := withEng s (pollStopped e)) hclosed .engine none
  refine ⟨_, begun_of_eng hbegun, ?_⟩
  rw [testStep_open hrun hcell, testIssue_issues (by rw [hclosed]; rfl) (.inl rfl),
    issueOpen_starts (s := withEng s (pollStopped e)) hclosed hfree, begun_issued hrun hbegun, withEng_withEng]

variable (hopened : s.pos[smallPos x].state = .opened) (hmode : s.modes.mode = .run)
  (hmarks : ∀ side ∈ sideBuses (smallPos x), e.marks.get side = none)
include hopened hmode hmarks

/-- A CLOSE step that passes its checks closes its position. -/
theorem testStep_closes (hcell : s.set.plans[r.slot][r.step] = some (.closePos x)) (hchecks : s.engCloseChecks (smallPos x) false = none)
    (hfree : ∀ m, s.auth.permits[smallPos x] ≠ some (.maintenance m)) :
    ∃ v : State, pulseBegun s v (smallPos x) true .engine none
      ∧ (withEng s e).testStep = (.waits, withEng v (stepIssued e r)) := by
  have hbegun : pulseBegun (withEng s (pollStopped e))
      ((withEng s (pollStopped e)).startClose (smallPos x) .engine none) (smallPos x) true .engine none :=
    startClose_begun (s := withEng s (pollStopped e)) hopened .engine none
  refine ⟨_, begun_of_eng hbegun, ?_⟩
  rw [testStep_close hrun hcell, testIssue_issues (by rw [hopened]; rfl) (.inr hmarks),
    issueClose_starts (s := withEng s (pollStopped e)) hopened hmode hchecks hfree, begun_issued hrun hbegun, withEng_withEng]

/-- A CLOSE_SYNC step that passes its checks joins the list of a synchronizer at work. -/
theorem testStep_joins (hcell : s.set.plans[r.slot][r.step] = some (.closeSync x)) (hchecks : s.engCloseChecks (smallPos x) true = none)
    (hbusy : s.sync.state ≠ .idle) (hroom : s.sync.waits.length < 8) (hwaits : ∀ w ∈ s.sync.waits, w.pos ≠ smallPos x)
    (htarget : ∀ w, s.sync.target = some w → w.pos ≠ smallPos x) :
    (withEng s e).testStep = (.waits, syncOffered (withEng s (stepIssued e r)) ⟨smallPos x, .engine, none, .auto⟩) := by
  have hissued := issueSync_joins (s := withEng s (pollStopped e)) hopened hmode hchecks hbusy hroom hwaits htarget
  rw [testStep_sync hrun hcell, testIssue_issues (by rw [hopened]; rfl) (.inr hmarks), hissued,
    setPhase_of_run (s := withEng s (pollStopped e)) hrun]
  rfl

end

/-! ### The timers of the engine (R137, R141, R142) -/

theorem exec_pollTimerExpiry (s : State) : exec .pollTimerExpiry s = .next s.pollExpiry.finish := rfl

theorem exec_stepTimerExpiry (s : State) : exec .stepTimerExpiry s = .next s.stepExpiry.finish := rfl

theorem exec_deadTimeMarkExpiry (bus : Bus) (s : State) : exec (.deadTimeMarkExpiry bus) s = .next (s.markExpiry bus).finish := rfl

theorem handle_monitorEngine (s : State) : s.handle .monitorEngine = s.engineMonitor := rfl

/-- The result of a test or a judgement carried through. -/
def carried (a : StepResult × State) : State := a.2.engGo a.1

theorem carried_waits (s : State) : carried (.waits, s) = s := engGo_waits s

/-- The engine with its poll timer started again. -/
def polledAgain (e : Engine) : Engine := { e with poll := some 10 }

/-- The engine with a dead-time mark gone. -/
def markGone (e : Engine) (bus : Bus) : Engine := { e with marks := e.marks.put bus none }

theorem marks_put_self (m : Marks) (bus : Bus) (t : Timer) : (m.put bus t).get bus = t := by cases bus <;> rfl

theorem marks_put_other {bus side : Bus} (h : side ≠ bus) (m : Marks) (t : Timer) : (m.put bus t).get side = m.get side := by
  cases side with
  | a => cases bus with
    | a => exact absurd rfl h
    | _ => rfl
  | b => cases bus with
    | b => exact absurd rfl h
    | _ => rfl
  | n => cases bus with
    | n => exact absurd rfl h
    | _ => rfl

section
variable {s : State} {r : PlanRun} (hrun : s.eng.run = some r)
include hrun

/-- A mark that runs out while no step waits to be issued is gone, and nothing more. -/
theorem markExpiry_other {bus : Bus} (hdue : s.eng.marks.get bus = some 0) (hphase : r.phase ≠ .waitingToIssue) :
    s.markExpiry bus = withEng s (markGone s.eng bus) := by
  have hidle : (withEng s (markGone s.eng bus)).waitsToIssue = false := waitsToIssue_other hrun hphase
  rw [State.markExpiry, hdue]
  exact if_neg (Bool.eq_false_iff.1 hidle)

variable (hstate : s.eng.state = .running)
include hstate

theorem pollExpiry_tests (hpoll : s.eng.poll = some 0) (hphase : r.phase = .waitingToIssue) :
    s.pollExpiry = carried ((withEng s (polledAgain s.eng)).testStep) := by
  have hwaits : (withEng s (polledAgain s.eng)).waitsToIssue = true := waitsToIssue_running hrun hstate hphase
  rw [State.pollExpiry, hpoll]
  exact if_pos hwaits

theorem markExpiry_tests {bus : Bus} (hdue : s.eng.marks.get bus = some 0) (hphase : r.phase = .waitingToIssue) :
    s.markExpiry bus = carried ((withEng s (markGone s.eng bus)).testStep) := by
  have hwaits : (withEng s (markGone s.eng bus)).waitsToIssue = true := waitsToIssue_running hrun hstate hphase
  rw [State.markExpiry, hdue]
  exact if_pos hwaits

variable (hphase : r.phase = .waiting) {st : Step} (hcell : s.set.plans[r.slot][r.step] = some st)
include hphase hcell

theorem pollExpiry_judges (hpoll : s.eng.poll = some 0) :
    s.pollExpiry = carried ((withEng s (polledAgain s.eng)).judgeWait st) := by
  have hidle : (withEng s (polledAgain s.eng)).waitsToIssue = false :=
    waitsToIssue_other hrun (by rw [hphase]; nofun)
  have hwaiting : (withEng s (polledAgain s.eng)).waitingStep = some st :=
    (waitingStep_running (s := withEng s (polledAgain s.eng)) hrun hstate hphase).trans hcell
  have hagain : (s.updEng fun e => { e with poll := some 10 }) = withEng s (polledAgain s.eng) := rfl
  have hdue : s.eng.poll.due = true := by rw [hpoll]; rfl
  simp only [State.pollExpiry, hdue, hagain, hidle, hwaiting, Bool.not_true, Bool.false_eq_true, if_false]
  rfl

theorem engineMonitor_judges (hhealthy : ∃ m t, st = .waitHealthy m t) : s.engineMonitor = carried (s.judgeWait st) := by
  obtain ⟨m, t, rfl⟩ := hhealthy
  rw [State.engineMonitor, waitingStep_running hrun hstate hphase, hcell]
  rfl

theorem stepExpiry_timeout (htimer : s.eng.stepTimer = .running 0) (hawaits : st.awaits ≠ none) :
    s.stepExpiry = s.engGo (.failed .timeout) := by
  have hwaiting := (waitingStep_running hrun hstate hphase).trans hcell
  have hdue : s.eng.stepTimer.due = true := by rw [htimer]; rfl
  cases st with
  | dwell t => exact absurd rfl hawaits
  | _ => simp only [State.stepExpiry, hdue, hwaiting, Bool.not_true, Bool.false_eq_true, if_false]

end

theorem stepExpiry_dwell {s : State} {r : PlanRun} (hrun : s.eng.run = some r) (hstate : s.eng.state = .running)
    (hphase : r.phase = .waiting) {t : Nat} (hcell : s.set.plans[r.slot][r.step] = some (.dwell t))
    (htimer : s.eng.stepTimer = .running 0) :
    s.stepExpiry = (withEng s { s.eng with stepTimer := .idle, poll := none }).engGo .complete := by
  have hwaiting := (waitingStep_running hrun hstate hphase).trans hcell
  have hdue : s.eng.stepTimer.due = true := by rw [htimer]; rfl
  simp only [State.stepExpiry, hdue, hwaiting, Bool.not_true, Bool.false_eq_true, if_false]
  rfl

theorem carried_complete (s : State) : carried (.complete, s) = s.engGo .complete := by rw [carried]

/-- A poll that finds the step waiting on ends with what the test leaves. -/
theorem exec_poll_tested {s u : State} {r : PlanRun} (hrun : s.eng.run = some r) (hstate : s.eng.state = .running)
    (hpoll : s.eng.poll = some 0) (hphase : r.phase = .waitingToIssue)
    (h : (withEng s (polledAgain s.eng)).testStep = (.waits, u)) : exec .pollTimerExpiry s = .next u.finish := by
  rw [exec_pollTimerExpiry, pollExpiry_tests hrun hstate hpoll hphase, h, carried_waits]

theorem exec_mark_tested {s u : State} {r : PlanRun} (hrun : s.eng.run = some r) (hstate : s.eng.state = .running) {bus : Bus}
    (hdue : s.eng.marks.get bus = some 0) (hphase : r.phase = .waitingToIssue)
    (h : (withEng s (markGone s.eng bus)).testStep = (.waits, u)) : exec (.deadTimeMarkExpiry bus) s = .next u.finish := by
  rw [exec_deadTimeMarkExpiry, markExpiry_tests hrun hstate hdue hphase, h, carried_waits]

/-- With the mark of one bus gone a position is free of marks that had none on its other sides. -/
theorem markGone_free {e : Engine} {bus : Bus} {sides : List Bus} (h : ∀ side ∈ sides, side ≠ bus → e.marks.get side = none) :
    ∀ side ∈ sides, (markGone e bus).marks.get side = none := by
  intro side hside
  by_cases hbus : side = bus
  · rw [hbus]
    exact marks_put_self ..
  · exact (marks_put_other hbus ..).trans (h side hside hbus)

theorem afterPlan_eq (s : State) :
    s.afterPlan = if s.retest.1 then s.retest.2.beginStep else (.waits, s.retest.2) := by simp only [State.afterPlan]

/-- The two results that end a plan, each with the outcome it ends with. -/
theorem follow_ends {s : State} {res : StepResult} {oc : PlanOutcome}
    (h : (res = .finished ∧ oc = .completed) ∨ ∃ why, res = .failed why ∧ oc = .failed s.stepIndex why) :
    s.follow res = (s.planEnds oc).afterPlan := by
  obtain ⟨rfl, rfl⟩ | ⟨why, rfl, rfl⟩ := h
  · exact follow_finished s
  · exact follow_failed s why

/-- Settles O39: each timer by the test or the judgement it makes, a step begun by its condition, and what follows its result. -/
theorem engineTimersAndSteps : Obligations.EngineTimersAndSteps := by
  unfold Obligations.EngineTimersAndSteps
  refine ⟨fun s r hstate hrun => ⟨fun x hpoll hphase => ?issue, fun st hphase hcell => ?wait, fun t htimer hphase hcell => ?dwell,
      fun bus hdue => ⟨fun hphase => ?markAlone, fun x hphase hcell hmarks hopened hchecks hmode hfree => ?markIssues⟩⟩,
    fun s r st t poll hrun hcell hawaits => ⟨beginStep_stands hrun hcell hawaits, beginStep_waits hrun hcell hawaits⟩,
    fun s n res => ⟨engGo_eq s res, engLoop_succ n res s, fun r hrun => follow_complete hrun,
      fun oc h => ⟨(follow_ends h).trans (afterPlan_eq _), planEnds_eng s oc, planEnds_not_engine s oc⟩⟩,
    fun s => ⟨engGo_waits s, fun hpending why => ?failed, fun r st t poll _ hrun hcell hawaits hfails => ?next⟩⟩
  case issue =>
    intro p issued joins
    have hrun' : (polledAgain s.eng).run = some r := hrun
    refine ⟨fun hcell hflight => ?inFlight, fun hcell hrest hmarks => ?marked, fun hcell hclosed hfree => ?opens,
      fun hcell hmarks hopened hmode => ⟨fun hcell hchecks hfree => ?closes,
        fun hcell hchecks hbusy hroom hwaits htarget => ?syncs⟩⟩
    case inFlight => exact exec_poll_tested hrun hstate hpoll hphase (testStep_inFlight hrun' hcell hflight)
    case marked => exact exec_poll_tested hrun hstate hpoll hphase (testStep_marked hrun' hcell hrest hmarks)
    case opens =>
      obtain ⟨v, hbegun, htest⟩ := testStep_opens hrun' hcell hclosed hfree
      exact ⟨v, hbegun, exec_poll_tested hrun hstate hpoll hphase htest⟩
    case closes =>
      obtain ⟨v, hbegun, htest⟩ := testStep_closes hrun' hopened hmode hmarks hcell hchecks hfree
      exact ⟨v, hbegun, exec_poll_tested hrun hstate hpoll hphase htest⟩
    case syncs =>
      have htest := testStep_joins hrun' hopened hmode hmarks hcell hchecks hbusy hroom hwaits htarget
      exact ⟨syncOffered (withEng s (stepIssued (polledAgain s.eng) r)) ⟨p, .engine, none, .auto⟩, rfl, rfl, rfl,
        exec_poll_tested hrun hstate hpoll hphase htest⟩
  case wait =>
    refine ⟨fun hpoll _ => ⟨fun hstands => ?polled, fun hfails => ?polledAgain⟩,
      fun hhealthy => ⟨fun hstands => ?monitored, fun hfails => ?monitoredAgain⟩, fun htimer hawaits => ?timeout⟩
    case polled =>
      rw [exec_pollTimerExpiry, pollExpiry_judges hrun hstate hphase hcell hpoll, judgeWait_stands hstands, carried_complete]
      rfl
    case polledAgain =>
      rw [exec_pollTimerExpiry, pollExpiry_judges hrun hstate hphase hcell hpoll, judgeWait_fails hfails, carried_waits]
      rfl
    case monitored =>
      have hjudged : s.judgeWait st = _ := judgeWait_stands hstands s.eng
      rw [handle_monitorEngine, engineMonitor_judges hrun hstate hphase hcell hhealthy, hjudged, carried_complete]
      rfl
    case monitoredAgain =>
      have hjudged : s.judgeWait st = (.waits, s) := judgeWait_fails hfails s.eng
      rw [handle_monitorEngine, engineMonitor_judges hrun hstate hphase hcell hhealthy, hjudged, carried_waits]
    case timeout =>
      have hexec : exec .stepTimerExpiry s = .next (s.engGo (.failed .timeout)).finish := by
        rw [exec_stepTimerExpiry, stepExpiry_timeout hrun hstate hphase hcell htimer hawaits]
      refine ⟨hexec, fun hpending => ⟨_, hexec, ?_⟩⟩
      rw [engGo_failed hpending, planEnds_eng, stepIndex_of_run hrun]
      exact ⟨rfl, rfl, rfl, planEnds_not_engine s _⟩
  case dwell =>
    rw [exec_stepTimerExpiry, stepExpiry_dwell hrun hstate hphase hcell htimer]
    rfl
  case markAlone =>
    rw [exec_deadTimeMarkExpiry, markExpiry_other hrun hdue hphase]
    rfl
  case markIssues =>
    obtain ⟨v, hbegun, htest⟩ :=
      testStep_closes (e := markGone s.eng bus) hrun hopened hmode (markGone_free hmarks) hcell hchecks hfree
    exact ⟨v, hbegun, exec_mark_tested hrun hstate hdue hphase htest⟩
  case failed =>
    rw [engGo_failed hpending, planEnds_eng]
    exact ⟨rfl, planEnds_not_engine s _⟩
  case next => rw [engGo_complete_waits hrun hcell hawaits hfails]; rfl

end Sys2Proof.Machine.PlanRuns

/-! SUPPORT. The statements of Section 9: an edge of a zero-crossing line, the measurement it makes and how it is judged, the close trigger,
the timers of an attempt, and SYNC_STEP and SYNC_CANCEL. First what a measurement is, then what ends an attempt and what its trigger comes
to, then the statements from these rules. -/

namespace Sys2Proof.Machine.Attempts

/-! ### The measurement and its window (R152, R153) -/

theorem wrapAngle_ge (x : Int) : -18000 ≤ wrapAngle x := by
  unfold wrapAngle
  omega

theorem wrapAngle_lt (x : Int) : wrapAngle x < 18000 := by
  unfold wrapAngle
  omega

theorem wrapAngle_mod (x : Int) : (wrapAngle x - x) % 36000 = 0 := by
  unfold wrapAngle
  omega

theorem phaseOf_nonneg {period : Nat} (h : 0 < period) (elapsed : Nat) : 0 ≤ phaseOf period elapsed :=
  Int.ediv_nonneg (Int.emod_nonneg _ (by omega)) (by omega)

theorem phaseOf_lt {period : Nat} (h : 0 < period) (elapsed : Nat) : phaseOf period elapsed < 36000 :=
  Int.ediv_lt_of_lt_mul (by omega) (Int.emod_lt_of_pos _ (by omega))

/-- Within the period the phase is the quotient of naturals, taken modulo a turn. -/
theorem phaseOf_within {period elapsed : Nat} (h : elapsed ≤ period) :
    phaseOf period elapsed = ((36000 * (period - elapsed) / period % 36000 : Nat) : Int) := by
  have hquotient : 36000 * (period - elapsed) % (36000 * period) / period = 36000 * (period - elapsed) / period % 36000 := by
    rw [Nat.mul_comm 36000 period, Nat.mod_mul_right_div_self]
  rw [← hquotient, Int.natCast_ediv, Int.natCast_emod, Int.natCast_mul, Int.natCast_mul, Int.natCast_sub h]
  rfl

theorem windowHolds_iff (t : Settings) (m : Measurement) :
    t.windowHolds m = true ↔ ∃ slip advance v, m.slip = some slip ∧ m.advance = some advance ∧ m.vdiff = some v
      ∧ slip.natAbs ≤ t.slipLimit ∧ (m.theta + advance).natAbs ≤ t.windowAngle * 100 ∧ v.natAbs ≤ t.voltLimit := by
  unfold Settings.windowHolds
  split
  case h_1 slip advance v hslip hadvance hv => simp [hslip, hadvance, hv, and_assoc]
  case h_2 hmissing =>
    refine iff_of_false Bool.false_ne_true ?_
    rintro ⟨slip, advance, v, hslip, hadvance, hv, -⟩
    exact hmissing slip advance v hslip hadvance hv

/-! ### An entry ends (R163, R164) -/

/-- An end is entered in the outcome list and told to the block of its class, and changes nothing else but the notices. -/
theorem syncEnd_ended (s : State) (e : SyncEntry) (oc : SyncOutcome) (d : Option SyncDetail) :
    let v := s.syncEnd e oc d true
    entryEnded s v s.sync e oc d [] ∧ { v with sync := s.sync, inbox := s.inbox, link := s.link } = s := by
  unfold State.syncEnd State.tellOutcome entryEnded
  cases e.cls <;> simp [State.hand, State.raise, pushBounded]

theorem endAttempt_of_target {s : State} {e : SyncEntry} (h : s.sync.target = some e) (oc : SyncOutcome) (d : Option SyncDetail) :
    s.endAttempt oc d
      = State.syncEnd { s with sync := { s.sync with state := .idle, target := none, att := {} } } e oc d true := by
  rw [State.endAttempt, h]

/-- The synchronizer's record as the end of its attempt leaves it, before the outcome is entered. -/
def atRest (y : Sync) : Sync := { y with state := .idle, target := none, att := {} }

theorem endAttempt_ended {s : State} {e : SyncEntry} (h : s.sync.target = some e) (oc : SyncOutcome) (d : Option SyncDetail) :
    let v := s.endAttempt oc d
    entryEnded s v (atRest s.sync) e oc d [] ∧ { v with sync := s.sync, inbox := s.inbox, link := s.link } = s := by
  rw [endAttempt_of_target h]
  obtain ⟨hended, hframe⟩ := syncEnd_ended { s with sync := atRest s.sync } e oc d
  exact ⟨hended, congrArg (fun x : State => { x with sync := s.sync }) hframe⟩

/-- How an attempt ends does not depend on how far it came. -/
theorem endAttempt_updAttempt {s : State} {e : SyncEntry} (h : s.sync.target = some e) (f : Attempt → Attempt) (oc : SyncOutcome)
    (d : Option SyncDetail) : (s.updAttempt f).endAttempt oc d = s.endAttempt oc d := by
  rw [endAttempt_of_target h, endAttempt_of_target (s := s.updAttempt f) h]
  rfl

theorem regrant_none {s : State} (h : s.sync.waits = []) : s.regrant = s := by
  rw [State.regrant, h]
  exact ite_self _

/-! ### The close trigger (R155) -/

/-- A drive begun leaves the synchronizer to whoever asked for it. -/
theorem begun_sync {s v : State} {p : Pos} {close : Bool} {o : Origin} {req : Option MasterIx} (h : pulseBegun s v p close o req) :
    v.sync = s.sync := by
  obtain ⟨-, -, -, hframe⟩ := h
  rw [← hframe]

/-- A drive begun with another attempt in progress is begun with this one. -/
theorem begun_of_updAttempt {s v : State} {f : Attempt → Attempt} {p : Pos} {close : Bool} {o : Origin} {req : Option MasterIx}
    (h : pulseBegun (s.updAttempt f) v p close o req) : pulseBegun s { v with sync := s.sync } p close o req := by
  obtain ⟨hself, hother, hfeeds, hframe⟩ := h
  exact ⟨hself, hother, hfeeds, congrArg (fun x : State => { x with sync := s.sync }) hframe⟩

/-- No permit bars a request of the synchronizer. -/
theorem maintRefuses_sync (s : State) (p : Pos) (req : Option MasterIx) : s.maintRefuses p .sync req = false := by
  unfold State.maintRefuses
  split <;> rfl

theorem locks_of_triggerCheck {s : State} {p : Pos} (h : s.triggerCheck p = none) :
    s.pos[p].tripLocked = false ∧ s.pos[p].bf = false := by
  have hlocks : s.checkLocks p = none := PlanRuns.firstRefusal_none h (.head _)
  simpa [State.checkLocks, require] using hlocks

/-- A close request refused changes nothing. -/
theorem closeRequest_refused {s : State} {p : Pos} {o : Origin} {req : Option MasterIx} {r : Result}
    (h : (s.closeRequest p o req).1 = .refused r) : s.closeRequest p o req = (.refused r, s) := by
  refine Prod.ext h ?_
  revert h
  unfold State.closeRequest
  split
  case h_1 => split <;> simp
  all_goals simp

/-- The answer to a close request does not depend on the synchronizer. -/
theorem closeRequest_answer_updAttempt (s : State) (f : Attempt → Attempt) (p : Pos) (o : Origin) (req : Option MasterIx) :
    ((s.updAttempt f).closeRequest p o req).1 = (s.closeRequest p o req).1 := by
  have hrefused : (s.updAttempt f).closeRefused p o req = s.closeRefused p o req := rfl
  unfold State.closeRequest
  rw [updAttempt_pos, hrefused]
  cases s.pos[p].state
  case opened => cases s.closeRefused p o req <;> rfl
  all_goals rfl

section
variable {s : State} {e : SyncEntry} (htarget : s.sync.target = some e)
include htarget

theorem trigger_of_target : s.trigger = ((s.triggerOnce e).1, (s.triggerOnce e).2.regrant) := by
  rw [State.trigger, htarget]

/-- Without the authority of its requester the attempt ends CANCELLED. -/
theorem trigger_unauthorized (h : s.syncAuthority e = false) :
    s.trigger = (.ended .cancelled, (s.endAttempt .cancelled none).regrant) := by
  have honce : s.triggerOnce e = (.ended .cancelled, s.endAttempt .cancelled none) := by simp [State.triggerOnce, h]
  rw [trigger_of_target htarget, honce]

variable (hauth : s.syncAuthority e = true)
include hauth

/-- A refusal by the trigger's checks or by the position supervisor ends the attempt INTERLOCK. -/
theorem trigger_refused {r : Result}
    (h : s.triggerCheck e.pos = some r ∨ (s.triggerCheck e.pos = none ∧ (s.closeRequest e.pos .sync none).1 = .refused r)) :
    s.trigger = (.ended .interlock, (s.endAttempt .interlock (some (.refusal r))).regrant) := by
  have honce : s.triggerOnce e = (.ended .interlock, s.endAttempt .interlock (some (.refusal r))) := by
    obtain hcheck | ⟨hcheck, hanswer⟩ := h
    · simp [State.triggerOnce, hauth, hcheck]
    · simp [State.triggerOnce, hauth, hcheck, closeRequest_refused hanswer]
  rw [trigger_of_target htarget, honce]

/-- With the authority and the checks standing an open position is driven, and the attempt is CLOSING. -/
theorem trigger_starts (hcheck : s.triggerCheck e.pos = none) (hopened : s.pos[e.pos].state = .opened) (hmode : s.modes.mode = .run) :
    ∃ v : State, pulseBegun s v e.pos true .sync none
      ∧ s.trigger = (.started, { v with sync := closingAttempt s.sync s.sync.att }) := by
  obtain ⟨hlocked, hbf⟩ := locks_of_triggerCheck hcheck
  have hbegun : pulseBegun s (s.startClose e.pos .sync none) e.pos true .sync none := startClose_begun hopened .sync none
  have hsync : (s.startClose e.pos .sync none).sync = s.sync := begun_sync hbegun
  have hrequest := closeRequest_starts hopened (closeRefused_none hlocked hbf hmode (maintRefuses_sync s e.pos none))
  have honce : s.triggerOnce e
      = (.started, { s.startClose e.pos .sync none with sync := closingAttempt s.sync s.sync.att }) := by
    simp only [State.triggerOnce, hauth, hcheck, hrequest, Bool.not_true, Bool.false_eq_true, if_false, State.updAttempt, State.setSync,
      hsync]
  refine ⟨_, hbegun, ?_⟩
  rw [trigger_of_target htarget, honce]
  exact congrArg (Prod.mk _) (PlanRuns.regrant_busy nofun)

end

theorem windowConfirmed_triggers {s : State} (hstate : s.sync.state = .inWindow) (h : 3 ≤ s.sync.att.confirm) :
    s.windowConfirmed = s.trigger.2 := if_pos ⟨hstate, h⟩

theorem exec_windowConfirmed (s : State) : exec .windowConfirmed s = .next s.windowConfirmed.finish := rfl

/-- Settles O42: WINDOW_CONFIRMED is the close trigger, by what the trigger comes to. -/
theorem windowConfirmedTriggers : Obligations.WindowConfirmedTriggers := by
  unfold Obligations.WindowConfirmedTriggers
  intro s e htarget hstate hconfirm
  rw [exec_windowConfirmed, windowConfirmed_triggers hstate hconfirm]
  refine ⟨fun hauth hcheck hopened hmode => ?starts, fun hauth => ?cancelled, fun r hauth hcheck => ?interlock⟩
  case starts =>
    obtain ⟨v, hbegun, htrigger⟩ := trigger_starts htarget hauth hcheck hopened hmode
    exact ⟨v, hbegun, by rw [htrigger]⟩
  case cancelled => rw [trigger_unauthorized htarget hauth]
  case interlock => rw [trigger_refused htarget hauth (.inl hcheck)]

/-! ### A correction period (R156) -/

theorem isGenBreaker_iff (p : Pos) : isGenBreaker p = true ↔ 5 ≤ p.val ∧ p.val ≤ 10 := by simp [isGenBreaker]

theorem beginPeriod_gen {s : State} {p : Pos} (h : 5 ≤ p.val ∧ p.val ≤ 10) :
    s.beginPeriod p = s.updAttempt fun a => { a with periodTimer := some 1000, outs := s.set.periodOuts a.meas (s.voltDiff p) } :=
  if_pos ((isGenBreaker_iff p).2 h)

theorem beginPeriod_other {s : State} {p : Pos} (h : ¬(5 ≤ p.val ∧ p.val ≤ 10)) : s.beginPeriod p = s :=
  if_neg (mt (isGenBreaker_iff p).1 h)

/-- The synchronizer's record as CORRECTING is entered: the confirmation count at 0, and a period for a generator breaker. -/
theorem enterCorrecting_eq (s : State) (p : Pos) :
    s.enterCorrecting p = { s with sync := { s.sync with
      state := .correcting
      att := if 5 ≤ p.val ∧ p.val ≤ 10 then
          { s.sync.att with confirm := 0, periodTimer := some 1000, outs := s.set.periodOuts s.sync.att.meas (s.voltDiff p) }
        else { s.sync.att with confirm := 0 } } } := by
  unfold State.enterCorrecting
  by_cases h : 5 ≤ p.val ∧ p.val ≤ 10
  · rw [beginPeriod_gen h, if_pos h]
    rfl
  · rw [beginPeriod_other h, if_neg h]
    rfl

/-! ### A measurement judged (R154, R157) -/

section
variable {s : State} {e : SyncEntry}

/-- Of a measurement that is not the fourth nothing follows in MEASURING. -/
theorem judge_early (hstate : s.sync.state = .measuring) (hcount : s.sync.att.measCount ≠ 4) (w : Bool) :
    s.judgeMeasurement e w = s := by
  rw [State.judgeMeasurement, hstate]
  exact if_pos hcount

/-- In IDLE and CLOSING a measurement changes nothing, and one out of the window changes nothing where it is waited for. -/
theorem judge_unmoved {w : Bool} (h : s.sync.state = .idle ∨ s.sync.state = .closing
      ∨ (w = false ∧ (s.sync.state = .correcting ∨ s.sync.state = .waitWindow ∨ s.sync.state = .latched))) :
    s.judgeMeasurement e w = s := by
  obtain h | h | ⟨rfl, h | h | h⟩ := h <;> simp [State.judgeMeasurement, h]

/-- The fourth measurement in AUTO, and any in CORRECTING, enters IN_WINDOW when it lies within the window. -/
theorem judge_enters
    (h : (s.sync.state = .measuring ∧ s.sync.att.measCount = 4 ∧ e.mode = .auto) ∨ s.sync.state = .correcting) :
    s.judgeMeasurement e true = s.enterWindow := by
  obtain ⟨hstate, hcount, hmode⟩ | hstate := h
  · simp [State.judgeMeasurement, State.measured, hstate, hcount, hmode]
  · rw [State.judgeMeasurement, hstate]
    rfl

/-- The fourth measurement in AUTO, and any in IN_WINDOW, enters CORRECTING when it lies out of the window. -/
theorem judge_leaves
    (h : (s.sync.state = .measuring ∧ s.sync.att.measCount = 4 ∧ e.mode = .auto) ∨ s.sync.state = .inWindow) :
    s.judgeMeasurement e false = s.enterCorrecting e.pos := by
  obtain ⟨hstate, hcount, hmode⟩ | hstate := h
  · simp [State.judgeMeasurement, State.measured, hstate, hcount, hmode]
  · rw [State.judgeMeasurement, hstate]
    rfl

/-- The fourth measurement in STEPPED enters WAIT_WINDOW. -/
theorem judge_stepped (hstate : s.sync.state = .measuring) (hcount : s.sync.att.measCount = 4) (hmode : e.mode = .stepped)
    (w : Bool) :
    s.judgeMeasurement e w = (s.setSync .waitWindow).updAttempt fun a => { a with seen := w } := by
  simp [State.judgeMeasurement, State.measured, hstate, hcount, hmode]

theorem judge_seen (hstate : s.sync.state = .waitWindow) :
    s.judgeMeasurement e true = s.updAttempt fun a => { a with seen := true } := by
  rw [State.judgeMeasurement, hstate]
  rfl

theorem judge_latched (hstate : s.sync.state = .latched) :
    s.judgeMeasurement e true = (s.setSync .waitWindow).updAttempt fun a => { a with seen := true } := by
  rw [State.judgeMeasurement, hstate]
  rfl

/-- The attempt with one confirmation more. -/
def confirmed (a : Attempt) : Attempt := { a with confirm := a.confirm + 1 }

theorem judge_inWindow (hstate : s.sync.state = .inWindow) :
    s.judgeMeasurement e true = (s.updAttempt confirmed).windowConfirmed := by
  rw [State.judgeMeasurement, hstate]
  rfl

/-- A confirmation before the third is counted, and no more. -/
theorem judge_counts (hstate : s.sync.state = .inWindow) (h : s.sync.att.confirm < 2) :
    s.judgeMeasurement e true = s.updAttempt confirmed := by
  have hfew : ¬3 ≤ (s.updAttempt confirmed).sync.att.confirm := by
    change ¬3 ≤ s.sync.att.confirm + 1
    omega
  exact (judge_inWindow hstate).trans (if_neg fun hthird => hfew hthird.2)

/-- The third confirmation triggers the close. -/
theorem judge_triggers (hstate : s.sync.state = .inWindow) (h : s.sync.att.confirm = 2) :
    s.judgeMeasurement e true = (s.updAttempt confirmed).trigger.2 := by
  have hthird : 3 ≤ (s.updAttempt confirmed).sync.att.confirm := by
    change 3 ≤ s.sync.att.confirm + 1
    omega
  exact (judge_inWindow hstate).trans (windowConfirmed_triggers (s := s.updAttempt confirmed) hstate hthird)

/-- Short of the trigger a measurement judged changes the synchronizer's record alone. -/
theorem judge_syncOnly {w : Bool} (h : s.sync.state ≠ .inWindow ∨ w = false ∨ s.sync.att.confirm < 2) :
    { s.judgeMeasurement e w with sync := s.sync } = s := by
  cases hstate : s.sync.state
  case idle => rw [judge_unmoved (.inl hstate)]
  case closing => rw [judge_unmoved (.inr (.inl hstate))]
  case measuring =>
    by_cases hcount : s.sync.att.measCount = 4
    · cases hmode : e.mode <;> cases w
      · rw [judge_leaves (.inl ⟨hstate, hcount, hmode⟩), enterCorrecting_eq]
      · rw [judge_enters (.inl ⟨hstate, hcount, hmode⟩)]
        rfl
      all_goals
        rw [judge_stepped hstate hcount hmode]
        rfl
    · rw [judge_early hstate hcount]
  case inWindow =>
    cases w
    · rw [judge_leaves (.inr hstate), enterCorrecting_eq]
    · rw [judge_counts hstate (by simpa [hstate] using h)]
      rfl
  case correcting =>
    cases w
    · rw [judge_unmoved (.inr (.inr ⟨rfl, .inl hstate⟩))]
    · rw [judge_enters (.inr hstate)]
      rfl
  case waitWindow =>
    cases w
    · rw [judge_unmoved (.inr (.inr ⟨rfl, .inr (.inl hstate)⟩))]
    · rw [judge_seen hstate]
      rfl
  case latched =>
    cases w
    · rw [judge_unmoved (.inr (.inr ⟨rfl, .inr (.inr hstate)⟩))]
    · rw [judge_latched hstate]
      rfl

variable (hstate : s.sync.state = .inWindow) (hconfirm : s.sync.att.confirm = 2) (htarget : s.sync.target = some e)
include hstate hconfirm htarget

theorem judge_third_starts (hauth : s.syncAuthority e = true) (hcheck : s.triggerCheck e.pos = none)
    (hopened : s.pos[e.pos].state = .opened) (hmode : s.modes.mode = .run) :
    ∃ v : State, pulseBegun s v e.pos true .sync none
      ∧ s.judgeMeasurement e true = { v with sync := closingAttempt s.sync { s.sync.att with confirm := 3 } } := by
  obtain ⟨v, hbegun, htrigger⟩ := trigger_starts (s := s.updAttempt confirmed) htarget hauth hcheck hopened hmode
  have hthree : confirmed s.sync.att = { s.sync.att with confirm := 3 } := by rw [confirmed, hconfirm]
  refine ⟨_, begun_of_updAttempt hbegun, ?_⟩
  rw [judge_triggers hstate hconfirm, htrigger, ← hthree]
  rfl

theorem judge_third_cancelled (hauth : s.syncAuthority e = false) :
    s.judgeMeasurement e true = (s.endAttempt .cancelled none).regrant := by
  rw [judge_triggers hstate hconfirm, trigger_unauthorized (s := s.updAttempt confirmed) htarget hauth,
    endAttempt_updAttempt htarget]

theorem judge_third_refused (hauth : s.syncAuthority e = true) {r : Result}
    (h : s.triggerCheck e.pos = some r ∨ (s.triggerCheck e.pos = none ∧ (s.closeRequest e.pos .sync none).1 = .refused r)) :
    s.judgeMeasurement e true = (s.endAttempt .interlock (some (.refusal r))).regrant := by
  rw [← closeRequest_answer_updAttempt s confirmed] at h
  rw [judge_triggers hstate hconfirm, trigger_refused (s := s.updAttempt confirmed) htarget hauth h,
    endAttempt_updAttempt htarget]

end

/-- Settles O41: the arithmetic of a measurement, and its judgement state by state. -/
theorem measurementsAndTheirJudgement : Obligations.MeasurementsAndTheirJudgement := by
  unfold Obligations.MeasurementsAndTheirJudgement
  refine ⟨⟨fun period elapsed h => ?phase, fun phi prev period closeTime vdiff => ?angle, windowHolds_iff⟩, fun s e w => ?judged⟩
  case phase => exact ⟨phaseOf_nonneg h elapsed, phaseOf_lt h elapsed, phaseOf_within⟩
  case angle =>
    refine ⟨wrapAngle_lt phi, wrapAngle_ge phi, wrapAngle_mod phi, ?_, ?_⟩
    · rintro rfl
      exact ⟨rfl, rfl⟩
    · rintro old rfl
      exact ⟨_, rfl, wrapAngle_ge _, wrapAngle_lt _, wrapAngle_mod _, rfl, rfl⟩
  case judged =>
    intro fourth correcting
    refine ⟨?enters, ?leaves, judge_syncOnly, ?unmoved, ?seen, ?stepped, ?counts, ?third, ?latched⟩
    case enters =>
      rintro h rfl
      exact congrArg State.sync (judge_enters h)
    case leaves =>
      rintro h rfl
      exact congrArg State.sync ((judge_leaves h).trans (enterCorrecting_eq s e.pos))
    case unmoved =>
      rintro (⟨hstate, hcount⟩ | h)
      · exact judge_early hstate hcount w
      · exact judge_unmoved h
    case seen =>
      rintro hstate rfl
      exact congrArg State.sync (judge_seen hstate)
    case stepped => exact fun hstate hcount hmode => congrArg State.sync (judge_stepped hstate hcount hmode w)
    case counts =>
      rintro hstate rfl hfew
      exact congrArg State.sync (judge_counts hstate hfew)
    case third =>
      rintro hstate rfl hconfirm htarget
      exact ⟨judge_third_starts hstate hconfirm htarget, judge_third_cancelled hstate hconfirm htarget,
        fun r hauth => judge_third_refused hstate hconfirm htarget hauth⟩
    case latched =>
      rintro hstate rfl
      exact congrArg State.sync (judge_latched hstate)

/-! ### The edges (R152) -/

theorem exec_zeroCrossingEdge (line : ZLine) (sub : Nat) (s : State) :
    exec (.zeroCrossingEdge line sub) s = .next (s.zeroCrossing line sub).finish := rfl

section
variable {s : State} {e : SyncEntry} {line : ZLine} (htarget : s.sync.target = some e) (hphase : s.base.phase = .running)
  (hstate : s.sync.state ≠ .closing)
include htarget hphase hstate

/-- Which line of the target an edge is on says what it does. -/
theorem zeroCrossing_of_target (sub : Nat) :
    s.zeroCrossing line sub
      = if referenceLine e.pos = some line then s.referenceEdge (s.edgeTime sub)
        else if runningLine e.pos = some line then s.runningEdge e (s.edgeTime sub) else s := by
  simp [State.zeroCrossing, htarget, hphase, hstate]

theorem zeroCrossing_reference (h : referenceLine e.pos = some line) (sub : Nat) :
    s.zeroCrossing line sub = s.referenceEdge (s.edgeTime sub) :=
  (zeroCrossing_of_target htarget hphase hstate sub).trans (if_pos h)

variable (hline : referenceLine e.pos ≠ some line)
include hline

theorem zeroCrossing_running (h : runningLine e.pos = some line) (sub : Nat) :
    s.zeroCrossing line sub = s.runningEdge e (s.edgeTime sub) :=
  (zeroCrossing_of_target htarget hphase hstate sub).trans ((if_neg hline).trans (if_pos h))

theorem zeroCrossing_other (h : runningLine e.pos ≠ some line) (sub : Nat) : s.zeroCrossing line sub = s :=
  (zeroCrossing_of_target htarget hphase hstate sub).trans ((if_neg hline).trans (if_neg h))

end

theorem runningEdge_unmeasured {s : State} (h : s.sync.att.period = none) (e : SyncEntry) (now : Nat) :
    s.runningEdge e now = s.updAttempt fun a => { a with edgeRunning := some 100 } := by
  rw [State.runningEdge, h]

/-- The measurement a running edge makes once the reference period is known. -/
def edgeMeasurement (s : State) (e : SyncEntry) (now period last : Nat) : Measurement :=
  measure (phaseOf period (edgeGap now last)) s.sync.att.meas period s.set.pos[e.pos].closeTime (s.voltDiff e.pos)

/-- The attempt with a measurement taken at a running edge. -/
def measurementTaken (a : Attempt) (m : Measurement) (w : Bool) : Attempt :=
  { a with edgeRunning := some 100, measCount := a.measCount + 1, meas := some m, live := w }

theorem runningEdge_measures {s : State} {period last : Nat} (hperiod : s.sync.att.period = some period) (hpos : 0 < period)
    (hlast : s.sync.att.lastRef = some last) (e : SyncEntry) (now : Nat) :
    let m := edgeMeasurement s e now period last
    let w := s.set.windowHolds m
    s.runningEdge e now = (s.updAttempt fun a => measurementTaken a m w).judgeMeasurement e w := by
  have hpos' : period ≠ 0 := by omega
  simp only [State.runningEdge, hperiod, hlast, if_neg hpos']
  rfl

/-- Settles O40, by the line the edge is on and whether the period is known. -/
theorem edgesMakeMeasurements : Obligations.EdgesMakeMeasurements := by
  unfold Obligations.EdgesMakeMeasurements
  intro s e line sub htarget hphase hstate now cmd
  have hexec : exec cmd s = .next (s.zeroCrossing line sub).finish := exec_zeroCrossingEdge line sub s
  refine ⟨fun href => ?reference, fun hline hrun hperiod => ?unmeasured,
    fun period last hline hrun hperiod hpos hlast => ?measured, fun hline hother => ?other⟩
  case reference =>
    rw [hexec, zeroCrossing_reference htarget hphase hstate href]
    rfl
  case unmeasured =>
    rw [hexec, zeroCrossing_running htarget hphase hstate hline hrun, runningEdge_unmeasured hperiod]
    rfl
  case measured =>
    intro m w v
    have hjudged : exec cmd s = .next (v.judgeMeasurement e w).finish := by
      rw [hexec, zeroCrossing_running htarget hphase hstate hline hrun, runningEdge_measures hperiod hpos hlast]
      rfl
    refine ⟨hjudged, fun hmeasuring hfew => ?_⟩
    have hcount : v.sync.att.measCount ≠ 4 := by
      change s.sync.att.measCount + 1 ≠ 4
      omega
    have hkept : v.judgeMeasurement e w = v := judge_early (s := v) hmeasuring hcount w
    rw [hjudged, hkept]
  case other => rw [hexec, zeroCrossing_other htarget hphase hstate hline hother]

/-! ### The timers of an attempt (R152, R156, R160) -/

theorem exec_attemptTimerExpiry (s : State) : exec .attemptTimerExpiry s = .next s.attemptExpiry.finish := rfl

theorem exec_edgeSupervisionExpiry (side : EdgeSide) (s : State) :
    exec (.edgeSupervisionExpiry side) s = .next (s.edgeExpiry side).finish := rfl

theorem exec_periodTimerExpiry (s : State) : exec .periodTimerExpiry s = .next s.periodExpiry.finish := rfl

theorem exec_onTimerExpiry (o : CorrOut) (s : State) : exec (.onTimerExpiry o) s = .next (s.onExpiry o).finish := rfl

section
variable {s : State} (hidle : s.sync.state ≠ .idle) (hclosing : s.sync.state ≠ .closing)
include hidle hclosing

theorem attemptExpiry_due (h : s.sync.att.attemptTimer = some 0) : s.attemptExpiry = (s.endAttempt .timeout none).regrant := by
  simp [State.attemptExpiry, State.finishAttempt, Timer.due, h, hidle, hclosing]

theorem edgeExpiry_due {side : EdgeSide} (h : s.sync.att.edgeTimer side = some 0) :
    s.edgeExpiry side = (s.endAttempt .lostReference none).regrant := by
  simp [State.edgeExpiry, State.finishAttempt, Timer.due, h, hidle, hclosing]

end

theorem periodExpiry_due {s : State} {e : SyncEntry} (htarget : s.sync.target = some e) (hstate : s.sync.state = .correcting)
    (h : s.sync.att.periodTimer = some 0) : s.periodExpiry = s.beginPeriod e.pos := by
  simp [State.periodExpiry, Timer.due, htarget, hstate, h]

theorem periodOver_iff (s : State) : s.periodOver = true ↔ s.sync.state = .correcting ∧ s.sync.att.periodTimer = some 0 := by
  simp [State.periodOver, Timer.due, and_comm]

/-- An on-time that runs out with the period leaves its output to the next period. -/
theorem onExpiry_periodOver {s : State} (h : s.periodOver = true) (o : CorrOut) : s.onExpiry o = s := by
  simp [State.onExpiry, h]

theorem onExpiry_stops {s : State} {o : CorrOut} (hdue : s.sync.att.outs.get o = some 0) (h : s.periodOver = false) :
    s.onExpiry o = s.updAttempt fun a => { a with outs := a.outs.stop o } := by
  simp [State.onExpiry, Timer.due, hdue, h]

theorem get_stop_self (t : OnTimers) (o : CorrOut) : (t.stop o).get o = none := by cases o <;> rfl

theorem get_stop_other (t : OnTimers) {o x : CorrOut} (h : x ≠ o) : (t.stop o).get x = t.get x := by
  revert h
  cases o <;> cases x <;> simp [OnTimers.get, OnTimers.stop]

/-- Settles O43, timer by timer. -/
theorem attemptTimers : Obligations.AttemptTimers := by
  unfold Obligations.AttemptTimers
  intro s e htarget ended
  have hends (oc : SyncOutcome) : ended (s.endAttempt oc none) oc := by
    obtain ⟨⟨hsync, hinbox⟩, hframe⟩ := endAttempt_ended htarget oc none
    exact ⟨hsync, hinbox.trans (congrArg (· ++ _) (List.append_nil s.inbox)), hframe⟩
  refine ⟨fun hidle hclosing => ⟨fun hdue => ?attempt, fun hdue => ?running, fun hdue => ?reference⟩, fun v _ => regrant_none,
    fun hstate hge hle hdue => ?period, fun o hdue => ⟨fun hstate hperiod => ?atEnd, fun hwithin => ?off⟩⟩
  case attempt => exact ⟨_, hends .timeout, by rw [exec_attemptTimerExpiry, attemptExpiry_due hidle hclosing hdue]⟩
  case running =>
    exact ⟨_, hends .lostReference, by rw [exec_edgeSupervisionExpiry, edgeExpiry_due (side := .running) hidle hclosing hdue]⟩
  case reference =>
    exact ⟨_, hends .lostReference, by rw [exec_edgeSupervisionExpiry, edgeExpiry_due (side := .reference) hidle hclosing hdue]⟩
  case period =>
    rw [exec_periodTimerExpiry, periodExpiry_due htarget hstate hdue, beginPeriod_gen ⟨hge, hle⟩]
    rfl
  case atEnd => rw [exec_onTimerExpiry, onExpiry_periodOver ((periodOver_iff s).2 ⟨hstate, hperiod⟩)]
  case off =>
    have hrunning : s.periodOver = false := Bool.eq_false_iff.2 fun hover => by
      obtain ⟨hstate, hperiod⟩ := (periodOver_iff s).1 hover
      exact hwithin.elim (· hstate) (· hperiod)
    have hexec := exec_onTimerExpiry o s
    rw [onExpiry_stops hdue hrunning] at hexec
    exact ⟨_, hexec, get_stop_self s.sync.att.outs o, fun x hx => get_stop_other s.sync.att.outs hx, rfl, rfl⟩

/-! ### SYNC_STEP (R157) -/

theorem exec_syncStepLatch {s u : State} {q : Req} {m : MasterIx} (h : s.hears q m) {pos : Nat} {a : Answer}
    (ha : (s.notePort q).syncLatch m pos = (a, u)) : exec (.syncStepLatch q pos) s = .next (u.answered q 27 a) :=
  serve_eq h 27 (fun m s => s.syncLatch m pos) ha

theorem exec_syncStepClose {s u : State} {q : Req} {m : MasterIx} (h : s.hears q m) {pos : Nat} {a : Answer}
    (ha : (s.notePort q).syncClose m pos = (a, u)) : exec (.syncStepClose q pos) s = .next (u.answered q 27 a) :=
  serve_eq h 27 (fun m s => s.syncClose m pos) ha

theorem exec_syncCancel {s u : State} {q : Req} {m : MasterIx} (h : s.hears q m) {pos : Nat} {a : Answer}
    (ha : (s.notePort q).syncCancel m pos = (a, u)) : exec (.syncCancel q pos) s = .next (u.answered q 28 a) :=
  serve_eq h 28 (fun m s => s.syncCancel m pos) ha

theorem syncPosOf_val {p : Pos} (h : p.val ≤ 10) : syncPosOf p.val = some p := by
  simp [syncPosOf, finOf, Nat.lt_succ_of_le h]

/-- A SYNC_STEP of the requester of a STEPPED target past MEASURING and short of CLOSING is taken. -/
theorem stepTarget_ok {s : State} {m : MasterIx} {p : Pos} {e : SyncEntry} (hp : p.val ≤ 10) (htarget : s.sync.target = some e)
    (hpos : e.pos = p) (hmode : e.mode = .stepped) (hreq : e.requester = some m) (hmeasuring : s.sync.state ≠ .measuring)
    (hclosing : s.sync.state ≠ .closing) : s.stepTarget m p.val = .ok e := by
  simp [State.stepTarget, syncPosOf_val hp, htarget, hpos, hmode, hreq, hmeasuring, hclosing]

section
variable {s : State} {m : MasterIx} {pos : Nat} {e : SyncEntry} (hok : s.stepTarget m pos = .ok e)
include hok

theorem syncLatch_latches :
    let c : Capture := ⟨s.sync.att.meas, s.sync.att.live, s.sync.att.seen⟩
    s.syncLatch m pos = ({ code := .done, data := c.bytes },
      { s with sync := { s.sync with state := .latched, att := { s.sync.att with capture := some c, seen := false } } }) := by
  rw [State.syncLatch, hok]
  rfl

theorem syncClose_outOfWindow (h : s.sync.att.live = false) : s.syncClose m pos = ({ code := .outOfWindow }, s) := by
  simp [State.syncClose, hok, h, State.answer]

theorem syncClose_triggers (h : s.sync.att.live = true) :
    s.syncClose m pos = ({ code := s.trigger.1.reply }, s.trigger.2) := by
  simp [State.syncClose, hok, h]

end

/-! ### SYNC_CANCEL (R161) -/

/-- A waiting entry taken off the list ends CANCELLED; the target and its attempt go on. -/
theorem dropWait_ended (s : State) (e : SyncEntry) :
    let v := s.dropWait e true
    entryEnded s v { s.sync with waits := s.sync.waits.filter (· ≠ e) } e .cancelled none []
      ∧ { v with sync := s.sync, inbox := s.inbox, link := s.link } = s := by
  obtain ⟨hended, hframe⟩ :=
    syncEnd_ended { s with sync := { s.sync with waits := s.sync.waits.filter (· ≠ e) } } e .cancelled none
  exact ⟨hended, congrArg (fun x : State => { x with sync := s.sync }) hframe⟩

/-- The port noted for a request has no part in what becomes of the entry. -/
theorem dropWait_notePort (s : State) (q : Req) (e : SyncEntry) :
    let v := (s.notePort q).dropWait e true
    entryEnded s v { s.sync with waits := s.sync.waits.filter (· ≠ e) } e .cancelled none []
      ∧ { v with sync := s.sync, inbox := s.inbox, link := s.link } = s := by
  obtain ⟨l, hl⟩ := notePort_link s q
  rw [hl]
  obtain ⟨hended, hframe⟩ := dropWait_ended { s with link := l } e
  exact ⟨hended, congrArg (fun x : State => { x with link := s.link }) hframe⟩

section
variable {s : State} {p : Pos}

theorem withdraw_waits {e : SyncEntry} (h : s.waitingFor p = some e) : s.withdraw p = s.dropWait e true := by
  rw [State.withdraw, h]

/-- The requester of a waiting entry takes it off the list. -/
theorem syncCancel_drops {m : MasterIx} {e : SyncEntry} (hp : p.val ≤ 10) (h : s.waitingFor p = some e) (hcls : e.cls ≠ .engine)
    (hreq : e.requester = some m) : s.syncCancel m p.val = ({ code := .done }, s.dropWait e true) := by
  have hmay : s.mayCancel m e = true := by simp [State.mayCancel, hcls, hreq]
  simp [State.syncCancel, syncPosOf_val hp, h, hmay, withdraw_waits h]

theorem syncCancel_notFound {m : MasterIx} (hp : p.val ≤ 10) (h : s.waitingFor p = none)
    (htarget : ∀ e, s.sync.target = some e → e.pos ≠ p) : s.syncCancel m p.val = ({ code := .notFound }, s) := by
  have hother : (s.sync.target.filter fun e => e.pos == p) = none := by simpa [Option.filter_eq_none_iff] using htarget
  simp [State.syncCancel, syncPosOf_val hp, h, hother, State.answer]

end

/-- Settles O44: the two actions of SYNC_STEP on the target, and SYNC_CANCEL of a waiting entry. -/
theorem syncStepAndCancel : Obligations.SyncStepAndCancel := by
  unfold Obligations.SyncStepAndCancel
  intro s q m p hears hp
  refine ⟨fun htarget hmeasuring hclosing => ?step, fun e hwaits hcls hreq => ?cancel, fun hnone htarget => ?notFound⟩
  case step =>
    obtain ⟨e, hsome, hpos, hmode, hreq, hauthority⟩ : ∃ e : SyncEntry, s.sync.target = some e ∧ e.pos = p ∧ e.mode = .stepped
        ∧ e.requester = some m ∧ s.syncAuthority e = s.holds m p := by
      obtain h | h := htarget <;> exact ⟨_, h, rfl, rfl, rfl, rfl⟩
    subst hpos
    have hok : (s.notePort q).stepTarget m e.pos.val = .ok e := stepTarget_ok hp hsome rfl hmode hreq hmeasuring hclosing
    refine ⟨?latch, fun hlive => ?out, fun hlive hholds hcheck hopened hrun => ?close⟩
    case latch =>
      have hexec := exec_syncStepLatch hears (syncLatch_latches hok)
      rw [notePort_sync] at hexec
      exact hexec
    case out => exact exec_syncStepClose hears (syncClose_outOfWindow hok hlive)
    case close =>
      have hauth : (s.notePort q).syncAuthority e = true := by rw [notePort_syncAuthority, hauthority, hholds]
      obtain ⟨v, hbegun, htrigger⟩ := trigger_starts (s := s.notePort q) hsome hauth
        (by rwa [notePort_triggerCheck]) (by rwa [notePort_pos]) hrun
      refine ⟨v, begun_of_notePort hbegun, exec_syncStepClose hears ?_⟩
      rw [syncClose_triggers hok hlive, htrigger]
      rfl
  case cancel =>
    have hexec := exec_syncCancel hears (syncCancel_drops hp hwaits hcls hreq)
    obtain ⟨⟨hsync, -⟩, hframe⟩ := dropWait_notePort s q e
    generalize (s.notePort q).dropWait e true = v at hexec hsync hframe
    refine ⟨v, hexec, ?_, ?_, ?_, ?_, hframe⟩
    all_goals rw [hsync]
    exact List.getLast?_concat
  case notFound => exact exec_syncCancel hears (syncCancel_notFound hp hnone htarget)

end Sys2Proof.Machine.Attempts

/-! SUPPORT. The statements of Section 11: the bytes of a frame, what a received frame does, a port on its link, the notices and the beacon.
First what each operation of the codec, the request reader and the link does, then the statements from these rules. -/

namespace Sys2Proof.Machine.Station

/-! ### Frames and their bytes (R192, Table 11.7) -/

/-- A check matches exactly when the bytes are a body with its check behind it. -/
theorem checked_eq_some_iff {bytes body : List Byte} : checked bytes = some body ↔ bytes = withCheck body := by
  constructor
  · intro h
    obtain ⟨⟨-, hcheck⟩, hbody⟩ := Option.ite_none_right_eq_some.1 h
    rw [← Option.some.inj hbody, hcheck]
  · rintro rfl
    exact Rounds.checked_withCheck body

theorem parseFrame_eq_some_iff {bytes : List Byte} {f : RawFrame} :
    parseFrame bytes = some f ↔ ∃ body, bytes = withCheck body ∧ frameOfBody body = some f := by
  simp only [parseFrame, Option.bind_eq_some_iff, checked_eq_some_iff]

theorem fits_iff (f : RawFrame) : f.fits = true ↔
    f.priority < 4 ∧ f.sender < 32 ∧ f.receiver < 32 ∧ f.length < 16 ∧ f.kind < 4 ∧ f.ident < 64 := by
  simp [RawFrame.fits, and_assoc]

/-- Fields that fit are read back from the four bytes they share. -/
theorem frameOfBody_body {f : RawFrame} (h : f.fits = true) : frameOfBody f.body = some f := by
  obtain ⟨hpriority, hsender, hreceiver, hlength, hkind, hident⟩ := (fits_iff f).1 h
  obtain ⟨priority, sender, receiver, length, kind, ident, tag, payload⟩ := f
  dsimp only at hpriority hsender hreceiver hlength hkind hident
  simp only [RawFrame.body, List.cons_append, List.nil_append, frameOfBody, BitVec.toNat_ofNat, Option.some.injEq, RawFrame.mk.injEq,
    and_true]
  omega

theorem byte_of_eq {n : Nat} {b : Byte} (h : n = b.toNat) : BitVec.ofNat 8 n = b := by
  rw [h, BitVec.ofNat_toNat, BitVec.setWidth_eq]

/-- What is read from a body spells that body, in fields that fit. -/
theorem frameOfBody_eq_some {body : List Byte} {f : RawFrame} (h : frameOfBody body = some f) : f.body = body ∧ f.fits = true := by
  unfold frameOfBody at h
  split at h
  case h_1 b0 b1 b2 tag payload =>
    cases h
    have h0 := b0.isLt
    have h1 := b1.isLt
    have h2 := b2.isLt
    refine ⟨?body, (fits_iff _).2 (by dsimp only; omega)⟩
    simp only [RawFrame.body, List.cons_append, List.nil_append, List.cons.injEq, and_true]
    exact ⟨byte_of_eq (by omega), byte_of_eq (by omega), byte_of_eq (by omega)⟩
  case h_2 => cases h

theorem body_length (f : RawFrame) : f.body.length = 4 + f.payload.length := by
  rw [RawFrame.body, List.length_append]
  rfl

theorem frameOfBody_short {body : List Byte} (h : body.length < 4) : frameOfBody body = none := by
  rw [Option.eq_none_iff_forall_ne_some]
  intro f hf
  rw [← (frameOfBody_eq_some hf).1, body_length] at h
  omega

theorem bytes_length (f : RawFrame) : f.bytes.length = 6 + f.payload.length := by
  rw [RawFrame.bytes, Rounds.withCheck_length, body_length]
  omega

/-- Settles O49: a body and its fields determine each other, and so do the bytes and the body before their check. -/
theorem framesRoundTrip : Obligations.FramesRoundTrip := by
  unfold Obligations.FramesRoundTrip
  refine ⟨fun f hfits => ⟨parseFrame_eq_some_iff.2 ⟨f.body, rfl, frameOfBody_body hfits⟩, bytes_length f⟩, fun bytes f h => ?read⟩
  obtain ⟨body, hbytes, hbody⟩ := parseFrame_eq_some_iff.1 h
  obtain ⟨hfields, hfits⟩ := frameOfBody_eq_some hbody
  exact ⟨by rw [RawFrame.bytes, hfields, hbytes], hfits⟩

/-! ### One port's record (R183, R185, R186) -/

/-- Two changes of one port are one change. -/
theorem updPort_updPort (s : State) (i : PortIx) (f g : PortRec → PortRec) :
    (s.updPort i f).updPort i g = s.updPort i fun r => g (f r) := by
  simp [State.updPort]

/-- A change of a port is what it makes of the record that stands. -/
theorem updPort_congr {s : State} {i : PortIx} {f g : PortRec → PortRec} (h : f s.link.ports[i] = g s.link.ports[i]) :
    s.updPort i f = s.updPort i g := by
  rw [State.updPort, h, State.updPort]

/-- A count below 128 leaves a port that is not SILENT as it is. -/
theorem judge_below {r : PortRec} (hsilent : r.silent = false) (htx : r.tx < 128) : r.judge = r := by
  simp [PortRec.judge, hsilent, Nat.not_le.2 htx]

/-- At a count of 128 a port falls SILENT with its queues empty. -/
theorem judge_falls {r : PortRec} (hsilent : r.silent = false) (htx : 128 ≤ r.tx) :
    r.judge = { r with silent := true, replies := [], beacons := [], kept := none, sending := none } := by
  simp [PortRec.judge, hsilent, htx]

section
variable {s : State} {i : PortIx} {f : PortRec → PortRec}

theorem updPort_judge_below (hsilent : (f s.link.ports[i]).silent = false) (htx : (f s.link.ports[i]).tx < 128) :
    (s.updPort i fun r => (f r).judge) = s.updPort i f := updPort_congr (judge_below hsilent htx)

theorem updPort_judge_falls (hsilent : (f s.link.ports[i]).silent = false) (htx : 128 ≤ (f s.link.ports[i]).tx) :
    (s.updPort i fun r => (f r).judge)
      = s.updPort i fun r => { f r with silent := true, replies := [], beacons := [], kept := none, sending := none } :=
  updPort_congr (judge_falls hsilent htx)

end

theorem bad_below {r : PortRec} (hsilent : r.silent = false) (htx : r.tx < 128) : r.bad = { r with rx := min 255 (r.rx + 1) } :=
  judge_below hsilent htx

theorem good_below {r : PortRec} (hsilent : r.silent = false) (htx : r.tx < 128) : r.good = { r with rx := r.rx - 1 } := by
  have hcount : (if r.silent then r.tx - 1 else r.tx) = r.tx := by simp [hsilent]
  rw [PortRec.good, hcount]
  exact judge_below hsilent htx

/-! ### What a received frame does (R184, R186) -/

theorem exec_stationFrameReceived (i : PortIx) (bytes : List Byte) (s : State) :
    exec (.stationFrameReceived i bytes) s = .next (s.frameReceived i bytes).finish := rfl

section
variable {s : State} {i : PortIx} {bytes : List Byte}

theorem frameReceived_bad (hphase : s.base.phase = .running) (h : ∀ body, bytes ≠ withCheck body) :
    s.frameReceived i bytes = s.updPort i PortRec.bad := by
  simp only [State.frameReceived, hphase, Rounds.checked_none h, ne_eq, not_true_eq_false, if_false]

/-- A good check over too few bytes counts as a good frame. -/
theorem frameReceived_short (hphase : s.base.phase = .running) {body : List Byte} (hbytes : bytes = withCheck body)
    (hbody : frameOfBody body = none) : s.frameReceived i bytes = s.updPort i PortRec.good := by
  simp only [State.frameReceived, hphase, checked_eq_some_iff.2 hbytes, hbody, ne_eq, not_true_eq_false, if_false]

/-- A frame that is read is served when it is a request to this node. -/
theorem frameReceived_of_parse (hphase : s.base.phase = .running) {f : RawFrame} (h : parseFrame bytes = some f) :
    s.frameReceived i bytes
      = if f.receiver = s.base.node.val ∧ f.kind = 0 then
          (s.updPort i PortRec.good).respond ⟨⟨i, f.sender, f.tag⟩, f.ident⟩ (f.reading.answer f.sender)
        else s.updPort i PortRec.good := by
  obtain ⟨body, hbytes, hbody⟩ := parseFrame_eq_some_iff.1 h
  simp only [State.frameReceived, hphase, checked_eq_some_iff.2 hbytes, hbody, ne_eq, not_true_eq_false, if_false]

end

/-- An accepted request with room for its reply is answered by its reading, on the state with its port noted. -/
theorem respond_accepted {s : State} {c : Caller} (haccepts : s.accepts c.req = true) (hroom : s.queueFull c.req = false)
    (f : State → Answer × State) : s.respond c f = (f (s.notePort c.req)).2.queueReply c (f (s.notePort c.req)).1 := by
  simp [State.respond, haccepts, hroom]

/-! ### The reading of a request (R193, Table 11.13) -/

theorem lengthFits_iff (f : RawFrame) : f.lengthFits = true ↔ f.length = f.payload.length ∧ f.length ≤ 10 := by
  simp [RawFrame.lengthFits]

theorem reading_fits {f : RawFrame} (h : f.length = f.payload.length ∧ f.length ≤ 10) : f.reading = readRequest f.ident f.payload :=
  if_pos ((lengthFits_iff f).2 h)

/-- No identity but 1 to 37 names a request. -/
theorem readRequest_unnamed {ident : Nat} (h : ident = 0 ∨ 38 ≤ ident) (payload : List Byte) :
    readRequest ident payload = .malformed := by
  obtain rfl | h := h
  · rfl
  · obtain ⟨n, rfl⟩ := Nat.exists_eq_add_of_le' h
    rfl

theorem reading_malformed {f : RawFrame} (h : f.ident = 0 ∨ 38 ≤ f.ident ∨ ¬(f.length = f.payload.length ∧ f.length ≤ 10)) :
    f.reading = .malformed := by
  by_cases hfits : f.length = f.payload.length ∧ f.length ≤ 10
  · rw [reading_fits hfits]
    exact readRequest_unnamed (h.imp_right fun h => h.resolve_right fun hnot => hnot hfits) f.payload
  · exact if_neg fun h => hfits ((lengthFits_iff f).1 h)

/-- The command is the row of an identity and a payload: it serves what they read as. -/
def RowOf (q : Req) (ident : Nat) (payload : List Byte) (c : Instr) : Prop :=
  ∃ g, readRequest ident payload = .request g ∧ ∀ s, exec c s = .next (s.serve q ident g).finish

/-- A received request is taken as its row, on the state with the frame counted. -/
theorem exec_frame_of_rowOf {s : State} {i : PortIx} {bytes : List Byte} {f : RawFrame} (hphase : s.base.phase = .running)
    (hparse : parseFrame bytes = some f) (hreceiver : f.receiver = s.base.node.val) (hkind : f.kind = 0)
    (hfits : f.length = f.payload.length ∧ f.length ≤ 10) {c : Instr} (h : RowOf ⟨i, f.sender, f.tag⟩ f.ident f.payload c) :
    exec (.stationFrameReceived i bytes) s = exec c (s.updPort i PortRec.good) := by
  obtain ⟨g, hread, hexec⟩ := h
  rw [exec_stationFrameReceived, frameReceived_of_parse hphase hparse, if_pos ⟨hreceiver, hkind⟩, reading_fits hfits, hread, hexec]
  rfl

/-- A frame of no named request, or of a length that does not fit, is answered RANGE once it is accepted (log 51). -/
theorem exec_frame_malformed {s : State} {i : PortIx} {bytes : List Byte} {f : RawFrame} (hphase : s.base.phase = .running)
    (hparse : parseFrame bytes = some f) (hreceiver : f.receiver = s.base.node.val) (hkind : f.kind = 0)
    (h : f.reading = .malformed) (haccepts : (s.updPort i PortRec.good).accepts ⟨i, f.sender, f.tag⟩ = true)
    (hroom : (s.updPort i PortRec.good).queueFull ⟨i, f.sender, f.tag⟩ = false) :
    exec (.stationFrameReceived i bytes) s
      = .next (((s.updPort i PortRec.good).notePort ⟨i, f.sender, f.tag⟩).answered ⟨i, f.sender, f.tag⟩ f.ident { code := .range }) := by
  rw [exec_stationFrameReceived, frameReceived_of_parse hphase hparse, if_pos ⟨hreceiver, hkind⟩, h, respond_accepted haccepts hroom]
  rfl

/-! ### The rows whose fields are more than single bytes (R193) -/

section
variable (q : Req)

theorem maskOfBytes_eq (a b c : Byte) : maskOfBytes a b c = BitVec.ofNat 23 (a.toNat * 65536 + b.toNat * 256 + c.toNat) := by
  have hnumber : ofBe [a, b, c] = a.toNat * 65536 + b.toNat * 256 + c.toNat := by
    simp only [ofBe, List.foldl_cons, List.foldl_nil]
    omega
  rw [maskOfBytes, hnumber]

/-- A flag byte is 1 for set and 0 for clear. -/
theorem withFlag_byte (on : Bool) (f : Bool → Reading) : withFlag (if on then 1 else 0) f = f on := by cases on <;> rfl

theorem permitReq_row (a b c kind time : Byte) (wait : Bool) :
    RowOf q 3 [a, b, c, kind, if wait then 1 else 0, time] (.permitReq q (maskOfBytes a b c) kind.toNat wait time.toNat) :=
  ⟨_, withFlag_byte wait _, fun _ => rfl⟩

theorem permitRelease_row (a b c : Byte) (withdraw : Bool) :
    RowOf q 4 [a, b, c, if withdraw then 1 else 0] (.permitRelease q (maskOfBytes a b c) withdraw) :=
  ⟨_, withFlag_byte withdraw _, fun _ => rfl⟩

theorem permitRenew_row (a b c : Byte) : RowOf q 5 [a, b, c] (.permitRenew q (maskOfBytes a b c)) := ⟨_, rfl, fun _ => rfl⟩

theorem groupSwitch_row (a b c x y : Byte) : RowOf q 16 [a, b, c, x, y] (.groupSwitch q (maskOfBytes a b c) x.toNat y.toNat) :=
  ⟨_, rfl, fun _ => rfl⟩

theorem layerWrite_row (a count : Byte) {rest : List Byte} (h : rest.length = (count.toNat + 1) / 2) :
    RowOf q 6 (a :: count :: rest) (.layerWrite q (a.toNat / 128) (a.toNat % 32)
      (((halves rest).take count.toNat).map fun h => (h / 4, h % 4))) :=
  ⟨_, if_neg fun hnot => hnot h, fun _ => rfl⟩

theorem planWrite_row (a : Byte) {rest : List Byte} {steps : List RawStep} (h : cellsOf rest = some steps) (hsteps : steps ≠ []) :
    RowOf q 21 (a :: rest) (.planWrite q (a.toNat / 16 % 8) (a.toNat % 16) steps) := by
  obtain ⟨x, xs, rfl⟩ := List.exists_cons_of_ne_nil hsteps
  refine ⟨_, ?_, fun _ => rfl⟩
  change readPlanWrite a rest = _
  rw [readPlanWrite, h]
  rfl

section
variable {row place : Byte} {index : List Byte} (hwidth : indexWidth row.toNat = some index.length)
include hwidth

theorem settingWrite_row {value : List Byte} {k : SettingKey} (hkey : keyOf row.toNat place.toNat (index.map BitVec.toNat) = some k)
    (hvalue : value.length = k.width) :
    RowOf q 32 (row :: place :: (index ++ value))
      (.settingWrite q row.toNat place.toNat (index.map BitVec.toNat) (ofBe value)) := by
  refine ⟨_, ?_, fun _ => rfl⟩
  change readSettingWrite row place (index ++ value) = _
  have hlength : ¬ (index ++ value).length < index.length := by simp
  have hkey' : keyOf (num row) (num place) (index.map num) = some k := hkey
  have hwidth' : indexWidth (num row) = some index.length := hwidth
  simp only [readSettingWrite, hwidth', hlength, List.take_left, List.drop_left, hkey', hvalue, ne_eq, not_true_eq_false, if_false]
  rfl

theorem settingRead_row : RowOf q 33 (row :: place :: index) (.settingRead q row.toNat place.toNat (index.map BitVec.toNat) 0) := by
  refine ⟨_, ?_, fun _ => rfl⟩
  change readSettingRead row place index = _
  have hwidth' : indexWidth (num row) = some index.length := hwidth
  simp only [readSettingRead, hwidth', List.take_length, if_true]
  rfl

theorem settingRead_part_row (x : Byte) :
    RowOf q 33 (row :: place :: (index ++ [x])) (.settingRead q row.toNat place.toNat (index.map BitVec.toNat) x.toNat) := by
  refine ⟨_, ?_, fun _ => rfl⟩
  change readSettingRead row place (index ++ [x]) = _
  have hwidth' : indexWidth (num row) = some index.length := hwidth
  have hlength : (index ++ [x]).length = index.length + 1 := List.length_append
  have hpart : ofBe [x] = x.toNat := by simp [ofBe]
  simp only [readSettingRead, hwidth', hlength, List.take_left, List.drop_left, hpart, Nat.succ_ne_self, if_false, if_true]
  rfl

end

end

/-- Settles O50: a frame by its check, its receiver and its reading; and each of the 37 identities by its row. -/
theorem framesReceived : Obligations.FramesReceived := by
  unfold Obligations.FramesReceived
  intro s i bytes hphase
  refine ⟨fun hbad => ?bad, fun body hbytes hshort => ?short, fun f hparse hother => ?other,
    fun f hparse hreceiver hkind => ⟨fun haccepts hroom h => ?malformed, fun hfits => ?rows⟩, fun r hsilent htx => ⟨bad_below hsilent htx, good_below hsilent htx⟩⟩
  case bad => rw [exec_stationFrameReceived, frameReceived_bad hphase hbad]
  case short => rw [exec_stationFrameReceived, frameReceived_short hphase hbytes (frameOfBody_short hshort)]
  case other =>
    have hnot : ¬(f.receiver = s.base.node.val ∧ f.kind = 0) := fun ⟨hreceiver, hkind⟩ => hother.elim (· hreceiver) (· hkind)
    rw [exec_stationFrameReceived, frameReceived_of_parse hphase hparse, if_neg hnot]
  case malformed => exact exec_frame_malformed hphase hparse hreceiver hkind (reading_malformed h) haccepts hroom
  case rows =>
    intro taken flag a b c d e x on rest mask
    have row {ident : Nat} {payload : List Byte} {c : Instr} (h : RowOf ⟨i, f.sender, f.tag⟩ ident payload c) :
        taken ident payload c := by
      rintro rfl rfl
      exact exec_frame_of_rowOf hphase hparse hreceiver hkind hfits h
    have hmask : mask = maskOfBytes a b c := (maskOfBytes_eq a b c).symm
    rw [hmask]
    -- Where every field is one byte, or two of a number, the row serves what is read as it stands: these goals are left to the last line.
    refine ⟨?_, ?_, ?_, row (permitReq_row ..), row (permitRelease_row ..), row (permitRenew_row ..),
      fun h => row (layerWrite_row _ _ _ h), ?_, ?_, ?_, ?_, ?_, ?_, ?_, ?_, ?_, ?_, row (groupSwitch_row ..), ?_, ?_, ?_, ?_, ?_,
      fun steps h hsteps => row (planWrite_row _ _ h hsteps), ?_, ?_, ?_, ?_, ?_, ?_, ?_, ?_, ?_, ?_, ?_, ?_,
      fun index value k hwidth hkey => ⟨fun hvalue => row (settingWrite_row _ hwidth hkey hvalue), row (settingRead_row _ hwidth),
        row (settingRead_part_row _ hwidth x)⟩,
      ?_, ?_, ?_, ?_⟩
    all_goals exact row ⟨_, rfl, fun _ => rfl⟩

/-! ### The frame offered on an idle link (R183, R187) -/

section
variable {s : State} {i : PortIx}

theorem exec_linkIdleOffer (i : PortIx) (s : State) : exec (.linkIdleOffer i) s = .next (s.linkIdle i).finish := rfl

/-- A port that may send takes the frame it offers. -/
theorem linkIdle_offers (hup : s.linkUp = true) (hsilent : s.link.ports[i].silent = false) (hfree : s.link.ports[i].sending = none)
    {f : OutFrame} (h : s.offerFrame i = some f) :
    s.linkIdle i = s.updPort i fun r => { r with sending := some f, kept := none } := by
  simp only [State.linkIdle, hup, hsilent, hfree, h, Bool.not_true, Option.isSome_none, Bool.or_self, Bool.false_eq_true, if_false]

theorem linkIdle_nothing (h : s.offerFrame i = none) : s.linkIdle i = s := by
  simp only [State.linkIdle, h, ite_self]

theorem offerFrame_unkept (h : s.link.ports[i].kept = none) : s.offerFrame i = s.sourceFrame i := by
  simp only [State.offerFrame, State.keptFrame, h, Option.none_or]

theorem offerFrame_kept_reply {r : Reply} {rest : List Reply} (hkept : s.link.ports[i].kept = some .reply)
    (h : s.link.ports[i].replies = r :: rest) : s.offerFrame i = some r.frame := by
  simp only [State.offerFrame, State.keptFrame, hkept, h, List.head?_cons, Option.map_some, Option.some_or]

/-- The first urgent notice goes before every other source. -/
theorem sourceFrame_urgent {m : MasterIx} {rest : List MasterIx} (h : s.link.noticesOn i = m :: rest)
    (hurgent : urgentSet s.link.pendingSets[m] = true) : s.sourceFrame i = some (s.noticeFrame m) := by
  have hfirst : (m :: rest).find? (fun x => urgentSet s.link.pendingSets[x]) = some m := List.find?_cons_of_pos hurgent
  simp only [State.sourceFrame, h, hfirst, Option.map_some, Option.some_or]

/-- Without an urgent notice, the replies come first, the notices next, the beacons last. -/
theorem sourceFrame_not_urgent (h : ∀ m ∈ s.link.noticesOn i, urgentSet s.link.pendingSets[m] = false) :
    s.sourceFrame i = ((s.link.ports[i].replies.head?.map Reply.frame).or ((s.link.noticesOn i).head?.map s.noticeFrame)).or
      (s.link.ports[i].beacons.head?.map BeaconFrame.frame) := by
  have hnone : (s.link.noticesOn i).find? (fun m => urgentSet s.link.pendingSets[m]) = none := by
    simpa only [List.find?_eq_none, Bool.not_eq_true] using h
  simp only [State.sourceFrame, hnone, Option.map_none, Option.none_or]

end

/-! ### The end of a sending (R183, R185, R186) -/

section
variable {s : State} {i : PortIx} {f : OutFrame}

theorem exec_arbitrationLost (i : PortIx) (s : State) : exec (.arbitrationLost i) s = .next (s.arbitrationLost i).finish := rfl

theorem exec_frameSentCleanly (i : PortIx) (s : State) : exec (.frameSentCleanly i) s = .next (s.sentCleanly i).finish := rfl

theorem exec_transmitError (i : PortIx) (s : State) : exec (.transmitError i) s = .next (s.transmitError i).finish := rfl

theorem arbitrationLost_reply (hsending : s.link.ports[i].sending = some f) (hsource : f.source = .reply) :
    s.arbitrationLost i = s.updPort i fun r => { r with sending := none, kept := some .reply } := by
  simp only [State.arbitrationLost, hsending, hsource, reduceCtorEq, if_false]

/-- A reply sent leaves the head of its queue, and the port is judged by the count one lower. -/
theorem sentCleanly_reply (hsending : s.link.ports[i].sending = some f) (hsource : f.source = .reply) :
    s.sentCleanly i
      = s.updPort i fun r => PortRec.judge { r with replies := r.replies.drop 1, sending := none, tx := r.tx - 1 } := by
  simp only [State.sentCleanly, hsending, State.clearDropped, State.leaveSource, hsource, updPort_updPort]

/-- A reply given up leaves the head of its queue, and the port is judged by the count eight higher. -/
theorem transmitError_reply (hsending : s.link.ports[i].sending = some f) (hsource : f.source = .reply) :
    s.transmitError i
      = s.updPort i fun r => PortRec.judge { r with replies := r.replies.drop 1, sending := none, tx := min 255 (r.tx + 8) } := by
  simp only [State.transmitError, hsending, State.leaveSource, hsource, updPort_updPort]

/-- A notice sent is no longer due; beside that only its port changes. -/
theorem sentCleanly_notice {m : MasterIx} (hsending : s.link.ports[i].sending = some f) (hsource : f.source = .notice m) :
    s.sentCleanly i
      = State.updPort { s with link := { s.link with noticeDue := s.link.noticeDue.filter (· ≠ m) } } i fun r =>
          PortRec.judge { r with sending := none, tx := r.tx - 1 } := by
  simp only [State.sentCleanly, hsending, State.clearDropped, State.leaveSource, hsource]

end

/-- Settles O51: the source a free link is offered, and the end of a sending by the frame that was sent. -/
theorem portEvents : Obligations.PortEvents := by
  unfold Obligations.PortEvents
  intro s i
  refine ⟨fun hphase hnode hsilent hfree => ?offer, fun f hsending hsource => ?reply, fun f m hsending hsource => ?notice⟩
  case offer =>
    have hup : s.linkUp = true := by simp [State.linkUp, hphase, hnode]
    refine ⟨fun f h => ?taken, fun h => ?nothing, fun r rest hreplies hkept hcalm => ?first, fun r rest hreplies hkept => ?kept,
      fun m rest hreplies hkept hdue hcalm => ?other, fun f rest hreplies hkept hdue hbeacons => ?beacon,
      fun m rest hkept hdue hurgent => ?urgent⟩
    case taken => rw [exec_linkIdleOffer, linkIdle_offers hup hsilent hfree h]
    case nothing => rw [exec_linkIdleOffer, linkIdle_nothing h]
    case first =>
      rw [offerFrame_unkept hkept, sourceFrame_not_urgent hcalm, hreplies]
      rfl
    case kept => exact offerFrame_kept_reply hkept hreplies
    case other =>
      rw [offerFrame_unkept hkept, sourceFrame_not_urgent hcalm, hreplies, hdue]
      rfl
    case beacon =>
      have hcalm : ∀ m ∈ s.link.noticesOn i, urgentSet s.link.pendingSets[m] = false := by simp [hdue]
      rw [offerFrame_unkept hkept, sourceFrame_not_urgent hcalm, hreplies, hdue, hbeacons]
      rfl
    case urgent => rw [offerFrame_unkept hkept, sourceFrame_urgent hdue hurgent]
  case reply =>
    refine ⟨?lost, fun hsilent htx => ?clean, fun hsilent htx => ?error, fun hsilent htx => ?falls⟩
    case lost => rw [exec_arbitrationLost, arbitrationLost_reply hsending hsource]
    case clean =>
      have hbelow : s.link.ports[i].tx - 1 < 128 := by omega
      rw [exec_frameSentCleanly, sentCleanly_reply hsending hsource, updPort_judge_below hsilent hbelow]
    case error =>
      have hcount : min 255 (s.link.ports[i].tx + 8) = s.link.ports[i].tx + 8 := by omega
      have hbelow : min 255 (s.link.ports[i].tx + 8) < 128 := by omega
      rw [exec_transmitError, transmitError_reply hsending hsource, updPort_judge_below hsilent hbelow]
      exact congrArg (fun t : State => Host.Outcome.next t.finish) (updPort_congr (by simp only [hcount]))
    case falls =>
      have hover : 128 ≤ min 255 (s.link.ports[i].tx + 8) := by omega
      rw [exec_transmitError, transmitError_reply hsending hsource, updPort_judge_falls hsilent hover]
  case notice =>
    refine ⟨s.sentCleanly i, rfl, ?_⟩
    rw [sentCleanly_notice hsending hsource]
    exact ⟨rfl, rfl, rfl⟩

/-! ### Notices (R187, R188) -/

/-- What a raised class makes of one master's pending set (R187). -/
def raisedSet (ms : Vector MasterEntry 16) (c : NoticeClass) (l : Link) (m : MasterIx) : NoticeSet :=
  if ms[m].node ≠ none ∧ ms[m].mask.getLsbD c.bit = true then l.pendingSets[m] ||| BitVec.twoPow 12 c.bit else l.pendingSets[m]

theorem raiseOne_pendingSets_self (ms : Vector MasterEntry 16) (c : NoticeClass) (l : Link) (m : MasterIx) :
    (l.raiseOne ms c m).pendingSets[m] = raisedSet ms c l m := by
  simp only [Link.raiseOne, raisedSet, Bool.and_eq_true, Option.isSome_iff_ne_none]
  split
  · simp
  · rfl

theorem raiseOne_pendingSets_other (ms : Vector MasterEntry 16) (c : NoticeClass) (l : Link) {x m : MasterIx} (h : x ≠ m) :
    (l.raiseOne ms c x).pendingSets[m] = l.pendingSets[m] := by
  unfold Link.raiseOne
  split
  · exact Vector.getElem_set_ne x.isLt m.isLt fun heq => h (Fin.ext heq)
  · rfl

/-- A class raised for several masters, each once, is raised for one of them by its own turn alone. -/
theorem foldl_raiseOne_pendingSets (ms : Vector MasterEntry 16) (c : NoticeClass) (m : MasterIx) (xs : List MasterIx) (h : xs.Nodup) :
    ∀ l : Link, (xs.foldl (Link.raiseOne ms c) l).pendingSets[m] = if m ∈ xs then raisedSet ms c l m else l.pendingSets[m] := by
  induction xs with
  | nil => exact fun l => rfl
  | cons x xs ih =>
    intro l
    obtain ⟨hx, hxs⟩ := List.nodup_cons.1 h
    rw [List.foldl_cons, ih hxs]
    by_cases heq : x = m
    · subst heq
      rw [if_neg hx, if_pos List.mem_cons_self, raiseOne_pendingSets_self]
    · have hset : raisedSet ms c (l.raiseOne ms c x) m = raisedSet ms c l m := by
        simp only [raisedSet, raiseOne_pendingSets_other ms c l heq]
      simp only [hset, raiseOne_pendingSets_other ms c l heq, List.mem_cons, Ne.symm heq, false_or]

theorem raise_pendingSets (s : State) (c : NoticeClass) (m : MasterIx) :
    (s.raise c).link.pendingSets[m] = raisedSet s.set.masters c s.link m := by
  have hmem : ∀ x : MasterIx, x ∈ allMasters := by decide
  rw [raise_link, foldl_raiseOne_pendingSets _ _ _ _ (by decide), if_pos (hmem m)]

/-- The state with the pending set of one master emptied and its frame withdrawn (R188). -/
def noticesTaken (s : State) (m : MasterIx) : State := { s with link := s.link.withdrawNotice m }

theorem notePort_pendingSets (s : State) (q : Req) : (s.notePort q).link.pendingSets = s.link.pendingSets := rfl

theorem noticesTaken_frame (s : State) (q : Req) (m : MasterIx) : { noticesTaken (s.notePort q) m with link := s.link } = s := by
  obtain ⟨l, hl⟩ := notePort_link s q
  rw [hl]
  rfl

theorem exec_readNotices {s : State} {q : Req} {m : MasterIx} (h : s.hears q m) :
    exec (.readNotices q) s
      = .next ((noticesTaken (s.notePort q) m).answered q 2 { code := .done, data := be 2 s.link.pendingSets[m].toNat }) := by
  rw [← notePort_pendingSets s q]
  exact serve_eq h 2 (fun m s => s.readNotices m) rfl

/-! ### The beacon (R189) -/

theorem beaconExpiry_due {s : State} (h : s.link.beaconTimer = some 0) :
    s.beaconExpiry = { s with link := { s.link with
      beaconNumber := s.link.beaconNumber + 1, beaconTimer := some 100
      ports := s.link.ports.map fun r => if r.silent then r else { r with beacons := s.beaconFrames (s.link.beaconNumber + 1) } } } := by
  simp [State.beaconExpiry, Timer.due, h]

/-- Settles O52: one turn for each master, the set that READ_NOTICES takes, and the three frames of a period. -/
theorem noticesAndBeacon : Obligations.NoticesAndBeacon := by
  unfold Obligations.NoticesAndBeacon
  refine ⟨fun s c m => ⟨raise_pendingSets s c m, rfl⟩, fun s q m hears => ?read, fun s hdue => ?beacon⟩
  case read => exact ⟨noticesTaken (s.notePort q) m, exec_readNotices hears, rfl, rfl, noticesTaken_frame s q m⟩
  case beacon =>
    refine ⟨s.beaconExpiry, rfl, ?_⟩
    rw [beaconExpiry_due hdue]
    refine ⟨rfl, rfl, rfl, rfl, fun i => ⟨fun hsilent => ?silent, fun hsilent => ?speaks⟩⟩
    case silent => exact (Vector.getElem_map ..).trans (if_pos hsilent)
    case speaks =>
      have hport : s.link.ports[i.val].silent = false := hsilent
      simp [hport, State.beaconFrames]

end Sys2Proof.Machine.Station
